-- ==== Sys2Proof/Word.lean ====
section
/-! DEFINITION. The small number types of the part, a six-place table indexed by station number, and
saturating counting. -/

namespace Sys2Proof

/-- A byte of a module-link transaction (R171). -/
abbrev Byte := BitVec 8

/-- A station number that names a place on the line, 0 to 5 (00 section 5.3). -/
abbrev Station := Fin 6

/-- A containment level, own level or record level, 0 to 7 (00 section 5.1). -/
abbrev Level := Fin 8

/-- One of the four trip inputs. -/
abbrev TripInput := Fin 4

/-- The six station numbers in ascending order. -/
def stations : List Station := [0, 1, 2, 3, 4, 5]

/-- A table with one place per station number (the peer view table, the population record). -/
structure Six (α : Type) where
  p0 : α
  p1 : α
  p2 : α
  p3 : α
  p4 : α
  p5 : α
  deriving DecidableEq, Repr

namespace Six

variable {α : Type}

/-- The same value in all six places. -/
def all (x : α) : Six α := ⟨x, x, x, x, x, x⟩

/-- The place of station `i`. -/
def get (t : Six α) (i : Station) : α :=
  match i with
  | 0 => t.p0
  | 1 => t.p1
  | 2 => t.p2
  | 3 => t.p3
  | 4 => t.p4
  | 5 => t.p5

/-- The table with the place of station `i` replaced. -/
def set (t : Six α) (i : Station) (x : α) : Six α :=
  match i with
  | 0 => { t with p0 := x }
  | 1 => { t with p1 := x }
  | 2 => { t with p2 := x }
  | 3 => { t with p3 := x }
  | 4 => { t with p4 := x }
  | 5 => { t with p5 := x }

/-- The same change in every place. -/
def map (f : α → α) (t : Six α) : Six α :=
  ⟨f t.p0, f t.p1, f t.p2, f t.p3, f t.p4, f t.p5⟩

end Six

end Sys2Proof
end

