-- ==== Sys2Proof/Syntax.lean ====
section
/-! DEFINITION. The values that commands carry (frames, requests, straps) and the commands themselves:
one constructor of `Instr` for each row of spec/opcode_table.json. -/

namespace Sys2Proof

/-- The roles (00 section 5.3; strapped by R1, coded by R169). -/
inductive Role where
  | pack | drive | cockpit | charger
  deriving DecidableEq, Repr

/-- The beacon periods of 5, 10 and 20 ms (00 section 5.2). -/
inductive Period where
  | ms5 | ms10 | ms20
  deriving DecidableEq, Repr

/-- The vehicle postures (R104). -/
inductive Posture where
  | normal | trim | limp | crawl | coast | safeStop | isolated
  deriving DecidableEq, Repr

/-- The reason of a CEASE and of a mute (R18, R33). -/
inductive MuteReason where
  | score | selfContained
  deriving DecidableEq, Repr

/-- The published quantities, identifiers 0 to 9 in this order (R55). -/
inductive Quantity where
  | packVoltage | dischargeLimit | regenAcceptance | contactorState
  | driveSpeed | linkVoltage
  | wheelSpeed | throttle | brake
  | charger
  deriving DecidableEq, Repr

/-- A published quantity in a beacon: its valid flag and its value (R16, R170).
Two-valued quantities hold 0 or 1 by the codes of R169. -/
structure Valued where
  valid : Bool
  value : Nat
  deriving DecidableEq, Repr

/-- The quantities a beacon publishes, which are those of the sender's role (R55, R170). -/
inductive Published where
  | pack (voltage discharge regen contactor : Valued)
  | drive (speed link : Valued)
  | cockpit (wheel throttle brake : Valued)
  | charger (connected : Valued)
  deriving DecidableEq, Repr

/-- The role whose quantities these are. -/
def Published.role : Published → Role
  | .pack _ _ _ _ => .pack
  | .drive _ _ => .drive
  | .cockpit _ _ _ => .cockpit
  | .charger _ => .charger

/-- The four flags of a beacon (R16). -/
structure Flags where
  joining : Bool
  rejoin : Bool
  isolated : Bool
  parking : Bool
  deriving DecidableEq, Repr

/-- A claim: a fault code and a level (R16, R91). -/
structure Claim where
  code : Nat
  level : Level
  deriving DecidableEq, Repr

/-- A BEACON (R16). Its role is the role of `published`. -/
structure Beacon where
  sender : Station
  period : Period
  sequence : Fin 16
  flags : Flags
  ownLevel : Level
  posture : Posture
  cl : Level
  claims : List Claim
  published : Published
  deriving DecidableEq, Repr

/-- An ALERT (R18). -/
structure Alert where
  sender : Station
  ownLevel : Level
  claim : Claim
  deriving DecidableEq, Repr

/-- A CEASE (R18). -/
structure Cease where
  sender : Station
  target : Station
  reason : MuteReason
  deriving DecidableEq, Repr

/-- A READMIT (R18). -/
structure Readmit where
  sender : Station
  target : Station
  deriving DecidableEq, Repr

/-- The five kinds of frame (R14, the rank table of 02 section 2.2). -/
inductive FrameKind where
  | alert | cease | readmit | beacon | wake
  deriving DecidableEq, Repr

/-- The levels of the straps as a reset reads them (R1): the number straps as a value 0 to 7 and the
role the role straps give. -/
structure Straps where
  number : Fin 8
  role : Role
  deriving DecidableEq, Repr

/-- Why a complete transaction carries no assigned request (R153). -/
inductive BadCause where
  | failedCheck | unassignedCode
  deriving DecidableEq, Repr

/-- The two outputs of the envelope unit, each with a rise timer of its own (R122). -/
inductive Ramp where
  | motoring | regen
  deriving DecidableEq, Repr

/-- The two cross-checks (R63, R64). -/
inductive Check where
  | speed | voltage
  deriving DecidableEq, Repr

/-- A consequence of an own beacon-timer expiry that the table lists as a step of its own. The operand
of OWN_BEACON_EXPIRY names those that are handled as later steps (DESIGN CHOICE, log 6). FRESHNESS_EXPIRY is not among
them: the freshness count comes before the evaluation and the beacon of the same expiry (R57, R62). -/
inductive Later where
  | entryToRun
  | clashAge (s : Station)
  | peerLoss (s : Station)
  | selfContained (s : Station)
  | persistence (c : Check)
  | brakeThrottle
  | dwellEnd (code : Nat)
  | releaseCount
  | rejoinTimeout
  | ceasePlace (s : Station)
  | readmitPlace (s : Station)
  deriving DecidableEq, Repr

/-- The flags all clear. -/
def Flags.clear : Flags := { joining := false, rejoin := false, isolated := false, parking := false }

/-- The quantities a role publishes, in ascending identifier order (R55). -/
def Role.quantities : Role → List Quantity
  | .pack => [.packVoltage, .dischargeLimit, .regenAcceptance, .contactorState]
  | .drive => [.driveSpeed, .linkVoltage]
  | .cockpit => [.wheelSpeed, .throttle, .brake]
  | .charger => [.charger]

/-- The restrictive value of a two-valued quantity (R55), and 0, the value after every reset, of a
numeric one. -/
def Quantity.restrictive : Quantity → Nat
  | .brake => 1
  | .charger => 1
  | _ => 0

/-- The station number the straps give, none for 6 and 7 (R1). -/
def Straps.station (st : Straps) : Option Station :=
  if h : st.number.val < 6 then some ⟨st.number.val, h⟩ else none

/-- The commands: one constructor for each row of the opcode table. -/
inductive Instr where
  /-- POWER_ON (R12): the supply comes up and the straps read `straps`. -/
  | powerOn (straps : Straps)
  /-- PIN (R12): the RESET input is asserted and released, and the straps read `straps`. -/
  | pin (straps : Straps)
  /-- CONFIG_WINDOW_EXPIRY (R5, R6). -/
  | configWindowExpiry
  /-- INCOMPLETE_TRANSACTION (R153): the select line is released after `clocks` clocks, not 64. -/
  | incompleteTransaction (clocks : Nat)
  /-- EMPTY_REQUEST (R153). -/
  | emptyRequest
  /-- BAD_REQUEST (R153). -/
  | badRequest (cause : BadCause)
  /-- SETUP (R4): parameter identifier and value. -/
  | setup (id : BitVec 8) (value : BitVec 16)
  /-- SEAL (R6). -/
  | seal
  /-- PUBLISH (R56): quantity identifier and value. -/
  | publish (id : BitVec 8) (value : BitVec 16)
  /-- REPORT (R78). -/
  | report (code : BitVec 8) (level : BitVec 4) (fm fr : BitVec 9) (measured : Option (BitVec 16))
  /-- WITHDRAW (R79). -/
  | withdraw (code : BitVec 8)
  /-- CLEAR (R83). -/
  | clear (code : BitVec 8)
  /-- QUERY (R84, R172): code 0 means ANY. -/
  | query (code part : BitVec 8)
  /-- READ-VIEW (R157). -/
  | readView (station part : BitVec 8)
  /-- READ-ENVELOPE (R132). -/
  | readEnvelope
  /-- READ-STACK (R108). -/
  | readStack (part : BitVec 8)
  /-- READ-CAUSE (R13). -/
  | readCause
  /-- CLEAR-CAUSE (R13). -/
  | clearCause
  /-- REFRESH (R159): token 1 FIRST, 2 SECOND. -/
  | refresh (token : BitVec 8)
  /-- REJOIN (R142). -/
  | rejoin
  /-- RESTART (R162): token 1 FIRST, 2 SECOND; `straps` is what the straps read if the request resets
  the part. -/
  | restart (token : BitVec 8) (straps : Straps)
  /-- PARK-ARM (R163). -/
  | parkArm
  /-- PARK-ENTER (R164). -/
  | parkEnter
  /-- The WAKE request (R167, R168). -/
  | wakeRequest
  /-- OWN_BEACON_EXPIRY (R8): one own period ends; `later` names the consequences left to steps of
  their own (log 6). -/
  | ownBeaconExpiry (later : List Later)
  /-- ENTRY_TO_RUN (R8). -/
  | entryToRun
  /-- CLASH_AGE_EXPIRY (R10). -/
  | clashAgeExpiry (s : Station)
  /-- PEER_LOSS (R45). -/
  | peerLoss (s : Station)
  /-- SELF_CONTAINED_COUNT (R48). -/
  | selfContainedCount (s : Station)
  /-- FRESHNESS_EXPIRY (R57). -/
  | freshnessExpiry (q : Quantity)
  /-- PERSISTENCE_EXPIRY (R65). -/
  | persistenceExpiry (c : Check)
  /-- BRAKE_THROTTLE_COUNT (R68). -/
  | brakeThrottleCount
  /-- DWELL_END (R81). -/
  | dwellEnd (code : Nat)
  /-- RELEASE_COUNT_EXPIRY (R120). -/
  | releaseCountExpiry
  /-- REJOIN_TIMEOUT (R143). -/
  | rejoinTimeout
  /-- CEASE_PLACE_EXPIRY (R140). -/
  | ceasePlaceExpiry (s : Station)
  /-- READMIT_PLACE_EXPIRY (R144). -/
  | readmitPlaceExpiry (s : Station)
  /-- SUPERVISION_EXPIRY (R158). -/
  | supervisionExpiry
  /-- RISE_TIMER_EXPIRY (R130). -/
  | riseTimerExpiry (ramp : Ramp)
  /-- TRIP_ARRIVAL (R86): trip input `n` turns asserted. -/
  | tripArrival (n : TripInput)
  /-- TRIP_DEASSERT (R86): trip input `n` deasserts. -/
  | tripDeassert (n : TripInput)
  /-- ATTEMPT_START (R22). -/
  | attemptStart
  /-- LOST_CONTENTION (R15). -/
  | lostContention
  /-- ATTEMPT_SUCCESS (R23). -/
  | attemptSuccess
  /-- ATTEMPT_FAILURE (R23). -/
  | attemptFailure
  /-- BEACON_RECEIVED (R37). -/
  | beaconReceived (b : Beacon)
  /-- ALERT_RECEIVED (R42). -/
  | alertReceived (a : Alert)
  /-- CEASE_RECEIVED (R140). -/
  | ceaseReceived (c : Cease)
  /-- READMIT_RECEIVED (R144). -/
  | readmitReceived (r : Readmit)
  /-- WAKE_FRAME_RECEIVED (R168). -/
  | wakeFrameReceived (sender : Station)
  /-- OWN_NUMBER_FRAME (R26): a good frame of kind `kind` whose key names this station. -/
  | ownNumberFrame (kind : FrameKind)
  /-- ATTRIBUTED_BAD_FRAME (R27): `key` is the station field of the frame's key. -/
  | attributedBadFrame (key : Fin 8)
  /-- UNATTRIBUTED_BAD_FRAME (R28). -/
  | unattributedBadFrame
  /-- LINE_STUCK (R29). -/
  | lineStuck
  /-- LINE_STUCK_GONE (R29). -/
  | lineStuckGone
  /-- LINE_RELEASED (R29). -/
  | lineReleased
  deriving DecidableEq, Repr

end Sys2Proof
end

