-- ==== Sys2Proof/Config.lean ====
section
/-! DEFINITION. What the part fixes: capacities, times and thresholds that the spec gives as constants.
The spec leaves no result undefined, so there is no free value here. -/

namespace Sys2Proof.Config

/-- The configuration window lasts at most 200 ms (R5). -/
def windowMs : Nat := 200

/-- A rise timer runs in periods of 2 ms (R122). -/
def riseMs : Nat := 2

/-- JOIN runs for four own beacon periods (R8). -/
def joinPeriods : Nat := 4

/-- A clash age is set to 16 (R9). -/
def clashPeriods : Nat := 16

/-- The alert and directive queues hold four frames each (02 section 2.4). -/
def queueCapacity : Nat := 4

/-- A frame is dropped at its third failed attempt (R23). -/
def lastAttempt : Nat := 3

/-- The transmit-failure count at which TX-FAIL is raised (R24). -/
def txFailAt : Nat := 8

/-- The line-error counts at which LINE-DEGRADED begins and ends (R28). -/
def degradedAt : Nat := 64
def degradedGoneAt : Nat := 32

/-- A line held dominant for more than 2 ms, 500 bit times of 4 µs, is stuck (R29; 02 section 2.1). -/
def stuckBits : Nat := 500

/-- General slots of the fault table (R72). -/
def generalSlots : Nat := 12

/-- Own periods a record dwells (R80). -/
def dwellPeriods : Nat := 4

/-- A beacon claims at most four records (R91). -/
def maxClaims : Nat := 4

/-- The own expiry count at which a waiting contactor is released (R120). -/
def releasePeriods : Nat := 3

/-- Suspicion thresholds (R47). -/
def suspectAt : Nat := 96
def liveAt : Nat := 48
def muteAt : Nat := 192

/-- Self-contained own periods before a peer is reported (R48). -/
def selfContainedAt : Nat := 16

/-- A directive stands for 16 own periods (R140, R144). -/
def placePeriods : Nat := 16

/-- The rejoin times out at 64 own periods (R143). -/
def rejoinPeriods : Nat := 64

/-- Clean beacons a probation needs (R152). -/
def cleanBeacons : Nat := 8

/-- A value is stale at the fourth own expiry, a check disputed at the fourth disagreeing one, and
BRAKE-THROTTLE begins at the third (R57, R65, R68). -/
def freshPeriods : Nat := 4
def persistencePeriods : Nat := 4
def brakeThrottlePeriods : Nat := 3

end Sys2Proof.Config
end

