-- ==== Sys2Proof/WellFormed.lean ====
section
/-! DEFINITION. Which terms of `Instr` are commands of the spec: the well-formedness of frames (R25, R170)
and of the operands of the other commands. -/

namespace Sys2Proof

/-- The top of a quantity's range (R55); a two-valued quantity holds 0 or 1. -/
def Quantity.top : Quantity → Nat
  | .packVoltage => 1500
  | .dischargeLimit => 1023
  | .regenAcceptance => 1023
  | .contactorState => 1
  | .driveSpeed => 1000
  | .linkVoltage => 1500
  | .wheelSpeed => 1000
  | .throttle => 1000
  | .brake => 1
  | .charger => 1

/-- A value in the range of its quantity, or one of its two codes. -/
def Valued.inRange (v : Valued) (q : Quantity) : Bool := decide (v.value ≤ q.top)

/-- No published value exceeds its range (R170). -/
def Published.wf : Published → Bool
  | .pack v d r c =>
    v.inRange .packVoltage && d.inRange .dischargeLimit && r.inRange .regenAcceptance
      && c.inRange .contactorState
  | .drive v l => v.inRange .driveSpeed && l.inRange .linkVoltage
  | .cockpit w t b => w.inRange .wheelSpeed && t.inRange .throttle && b.inRange .brake
  | .charger c => c.inRange .charger

/-- A claim names a code 1 to 63 and a level 1 to 7 (R170). -/
def Claim.wf (c : Claim) : Bool := decide (1 ≤ c.code ∧ c.code ≤ 63 ∧ c.level ≠ 0)

/-- The body of a BEACON holds named values only (R25, R170). -/
def Beacon.wf (b : Beacon) : Bool :=
  decide (b.claims.length ≤ Config.maxClaims) && b.claims.all Claim.wf && b.published.wf

/-- The body of an ALERT holds named values only. -/
def Alert.wf (a : Alert) : Bool := a.claim.wf

/-- The target of a CEASE is another station (R170). -/
def Cease.wf (c : Cease) : Bool := decide (c.target ≠ c.sender)

/-- The target of a READMIT is another station (R170). -/
def Readmit.wf (r : Readmit) : Bool := decide (r.target ≠ r.sender)

/-- A code that a record can have (R73). -/
def isRecordCode (code : Nat) : Bool := decide ((1 ≤ code ∧ code ≤ 4) ∨ (8 ≤ code ∧ code ≤ 63))

/-- A consequence that can be left to a later step. -/
def Later.wf : Later → Bool
  | .dwellEnd code => isRecordCode code
  | _ => true

/-- The commands of the spec. A frame that is not well formed is not a good frame (R25); an incomplete
transaction has a number of clocks other than 64 (R153); an own expiry leaves a consequence to a later
step at most once. -/
def Instr.wf : Instr → Bool
  | .incompleteTransaction clocks => decide (clocks ≠ 64)
  | .ownBeaconExpiry later => decide later.Nodup && later.all Later.wf
  | .dwellEnd code => isRecordCode code
  | .beaconReceived b => b.wf
  | .alertReceived a => a.wf
  | .ceaseReceived c => c.wf
  | .readmitReceived r => r.wf
  | _ => true

end Sys2Proof
end

