-- ==== Sys2Proof/Decode.lean ====
section
/-! DEFINITION. How commands are spelled in bits. The opcode table gives no row any bits, so
`decodeTableWord` answers none. What 12 (Formats) does give is here too: the bytes of a module-link
request (R153, R171) and the bits of a frame on the peer line (R14, R25, R170), each decoded and encoded. -/

namespace Sys2Proof

/-- The rows of the opcode table give no bits, so no word spells a command. -/
def decodeTableWord (_nbits _w : Nat) : Option Instr := none

/-! ### Module-link requests (R153, R171) -/

/-- The check over bytes 0 to 6, which stand in `data` with byte 0 most significant: the ones'
complement of their sum modulo 256 (R171). -/
def checkByte (data : BitVec 56) : Byte :=
  ~~~(data.extractLsb' 48 8 + data.extractLsb' 40 8 + data.extractLsb' 32 8 + data.extractLsb' 24 8
    + data.extractLsb' 16 8 + data.extractLsb' 8 8 + data.extractLsb' 0 8)

/-- The request an assigned code and its operand bytes 1 to 6 spell (R171). `straps` is what the straps
would read at the end of a RESTART. -/
def decodeRequest (straps : Straps) (code : Byte) (ops : BitVec 48) : Option Instr :=
  let b1 := ops.extractLsb' 40 8
  let b2 := ops.extractLsb' 32 8
  let b3 := ops.extractLsb' 24 8
  let b4 := ops.extractLsb' 16 8
  let v := ops.extractLsb' 24 16
  match code.toNat with
  | 1 => some (.setup b1 v)
  | 2 => some .seal
  | 3 => some (.publish b1 v)
  | 4 =>
    some (.report b1 (b2.extractLsb' 0 4) (b2.extractLsb' 4 1 ++ b3) (b2.extractLsb' 5 1 ++ b4)
      (if b2.getLsbD 6 then some (ops.extractLsb' 0 16) else none))
  | 5 => some (.withdraw b1)
  | 6 => some (.clear b1)
  | 7 => some (.query b1 b2)
  | 8 => some (.readView b1 b2)
  | 9 => some .readEnvelope
  | 10 => some (.readStack b1)
  | 11 => some .readCause
  | 12 => some .clearCause
  | 13 => some (.refresh b1)
  | 14 => some .parkArm
  | 15 => some .parkEnter
  | 16 => some .wakeRequest
  | 17 => some .rejoin
  | 18 => some (.restart b1 straps)
  | _ => none

/-- What a complete transaction is taken as, its eight bytes in `w` with byte 0 most significant (R153). -/
def decodeTransaction (straps : Straps) (w : BitVec 64) : Instr :=
  let data : BitVec 56 := w.extractLsb' 8 56
  let code : Byte := w.extractLsb' 56 8
  if code = 0 then .emptyRequest
  else if w.extractLsb' 0 8 = checkByte data then
    match decodeRequest straps code (w.extractLsb' 8 48) with
    | some i => i
    | none => .badRequest .unassignedCode
  else .badRequest .failedCheck

/-- Operand bytes 1 to 6 with bytes beyond the operands 0. -/
def operand1 (b1 : Byte) : BitVec 48 := b1 ++ 0#40
def operand2 (b1 b2 : Byte) : BitVec 48 := b1 ++ (b2 ++ 0#32)
def operandValue (b1 : Byte) (v : BitVec 16) : BitVec 48 := b1 ++ (v ++ 0#24)

/-- The request code and operand bytes of a request (R171); none for a command that is no request. -/
def requestBytes : Instr → Option (Byte × BitVec 48)
  | .setup id v => some (1, operandValue id v)
  | .seal => some (2, 0)
  | .publish id v => some (3, operandValue id v)
  | .report code level fm fr measured =>
    let flag : BitVec 1 := if measured.isSome then 1 else 0
    let b2 : Byte := 0#1 ++ (flag ++ (fr.extractLsb' 8 1 ++ (fm.extractLsb' 8 1 ++ level)))
    some (4, code ++ (b2 ++ (fm.extractLsb' 0 8 ++ (fr.extractLsb' 0 8 ++ measured.getD 0))))
  | .withdraw code => some (5, operand1 code)
  | .clear code => some (6, operand1 code)
  | .query code part => some (7, operand2 code part)
  | .readView station part => some (8, operand2 station part)
  | .readEnvelope => some (9, 0)
  | .readStack part => some (10, operand1 part)
  | .readCause => some (11, 0)
  | .clearCause => some (12, 0)
  | .refresh token => some (13, operand1 token)
  | .parkArm => some (14, 0)
  | .parkEnter => some (15, 0)
  | .wakeRequest => some (16, 0)
  | .rejoin => some (17, 0)
  | .restart token _ => some (18, operand1 token)
  | _ => none

/-- The eight bytes of a request with its check (R171). -/
def encodeRequest (i : Instr) : Option (BitVec 64) :=
  (requestBytes i).map fun (code, ops) =>
    let data : BitVec 56 := code ++ ops
    data ++ checkByte data

/-! ### Field codes (R169) -/

def Role.bits : Role → Nat
  | .pack => 0 | .drive => 1 | .cockpit => 2 | .charger => 3

def Period.bits : Period → Nat
  | .ms5 => 0 | .ms10 => 1 | .ms20 => 2

def Posture.bits : Posture → Nat
  | .normal => 0 | .trim => 1 | .limp => 2 | .crawl => 3 | .coast => 4 | .safeStop => 5 | .isolated => 6

def Period.ofBits : Nat → Option Period
  | 0 => some .ms5 | 1 => some .ms10 | 2 => some .ms20 | _ => none

def Posture.ofBits : Nat → Option Posture
  | 0 => some .normal | 1 => some .trim | 2 => some .limp | 3 => some .crawl | 4 => some .coast
  | 5 => some .safeStop | 6 => some .isolated | _ => none

def FrameKind.rank : FrameKind → Nat
  | .alert => 0 | .cease => 1 | .readmit => 2 | .beacon => 3 | .wake => 4

def FrameKind.ofRank : Nat → Option FrameKind
  | 0 => some .alert | 1 => some .cease | 2 => some .readmit | 3 => some .beacon | 4 => some .wake
  | _ => none

/-- The width of a quantity's value in a beacon (R170). -/
def Quantity.width : Quantity → Nat
  | .packVoltage => 11
  | .linkVoltage => 11
  | .contactorState => 1
  | .brake => 1
  | .charger => 1
  | _ => 10

/-! ### Frames on the peer line (R14, R170) -/

/-- The `width` low bits of `v`, most significant first. -/
def bitsOf : Nat → Nat → List Bool
  | 0, _ => []
  | w + 1, v => v.testBit w :: bitsOf w v

/-- The number a list of bits holds, most significant first. -/
def natOf (l : List Bool) : Nat := l.foldl (fun n b => 2 * n + b.toNat) 0

/-- A frame of any kind. -/
inductive Frame where
  | alert (a : Alert)
  | cease (c : Cease)
  | readmit (r : Readmit)
  | beacon (b : Beacon)
  | wake (sender : Station)
  deriving DecidableEq, Repr

def Frame.kind : Frame → FrameKind
  | .alert _ => .alert | .cease _ => .cease | .readmit _ => .readmit | .beacon _ => .beacon
  | .wake _ => .wake

def Frame.sender : Frame → Station
  | .alert a => a.sender | .cease c => c.sender | .readmit r => r.sender | .beacon b => b.sender
  | .wake s => s

/-- The well-formedness check of R25 and R170 on the values of a frame. -/
def Frame.wf : Frame → Bool
  | .alert a => a.wf | .cease c => c.wf | .readmit r => r.wf | .beacon b => b.wf | .wake _ => true

/-- The parity bit: 1 when the six bits hold an even number of ones (R170). -/
def keyParity (six : List Bool) : Bool := decide ((six.filter id).length % 2 = 0)

/-- The seven key bits (R170). -/
def Frame.key (f : Frame) : List Bool :=
  let six := bitsOf 3 f.kind.rank ++ bitsOf 3 f.sender.val
  six ++ [keyParity six]

def valuedBits (q : Quantity) (v : Valued) : List Bool := v.valid :: bitsOf q.width v.value

def publishedBits : Published → List Bool
  | .pack v d r c =>
    valuedBits .packVoltage v ++ valuedBits .dischargeLimit d ++ valuedBits .regenAcceptance r
      ++ valuedBits .contactorState c
  | .drive v l => valuedBits .driveSpeed v ++ valuedBits .linkVoltage l
  | .cockpit w t b => valuedBits .wheelSpeed w ++ valuedBits .throttle t ++ valuedBits .brake b
  | .charger c => valuedBits .charger c

def claimBits (c : Claim) : List Bool := bitsOf 6 c.code ++ bitsOf 3 c.level.val

def MuteReason.bit : MuteReason → Bool
  | .score => false | .selfContained => true

/-- The body bits of a frame in sending order (R170). -/
def Frame.body : Frame → List Bool
  | .beacon b =>
    bitsOf 3 b.sender.val ++ bitsOf 2 b.published.role.bits ++ bitsOf 2 b.period.bits
      ++ bitsOf 4 b.sequence.val
      ++ [b.flags.joining, b.flags.rejoin, b.flags.isolated, b.flags.parking]
      ++ bitsOf 3 b.ownLevel.val ++ bitsOf 3 b.posture.bits ++ bitsOf 3 b.cl.val
      ++ bitsOf 3 b.claims.length ++ (b.claims.map claimBits).flatten ++ publishedBits b.published
  | .alert a => bitsOf 3 a.sender.val ++ bitsOf 3 a.ownLevel.val ++ claimBits a.claim
  | .cease c => bitsOf 3 c.sender.val ++ bitsOf 3 c.target.val ++ [c.reason.bit]
  | .readmit r => bitsOf 3 r.sender.val ++ bitsOf 3 r.target.val
  | .wake s => bitsOf 3 s.val

/-- One step of the CRC register (R170). -/
def crcStep (r : BitVec 16) (b : Bool) : BitVec 16 :=
  let shifted := r <<< 1
  if r.msb = b then shifted else shifted ^^^ 0x1021#16

/-- The CRC over body bits (R170). -/
def crc16 (body : List Bool) : BitVec 16 := body.foldl crcStep 0xFFFF#16

/-- The bits of a frame before insertion: start bit, key, body, CRC (R14). -/
def Frame.plain (f : Frame) : List Bool :=
  false :: (f.key ++ f.body ++ bitsOf 16 (crc16 f.body).toNat)

/-- Bit insertion (R14, R170): after six equal bits one bit of the other value, which begins the count
of the next run. `last` and `run` are the value and length of the run so far. -/
def insertFrom (last : Bool) (run : Nat) : List Bool → List Bool
  | [] => []
  | b :: rest =>
    if b = last then
      if run = 5 then b :: (!b) :: insertFrom (!b) 1 rest
      else b :: insertFrom b (run + 1) rest
    else b :: insertFrom b 1 rest

/-- The bits of a frame as they stand on the line; the run before the start bit is the idle line's. -/
def Frame.wire (f : Frame) : List Bool := insertFrom true 0 f.plain

/-- Removal of inserted bits (R170): the bits found, and whether the coding held, which seven equal bits break
(R14). Every bit after six equal bits is removed, one that breaks the coding too, and begins the count of the
next run, so the key of a broken frame is read from the bits that are left (R25; log 34). A seventh equal bit that ends
the list breaks the coding too, with no bit of the opposite level after it: the model's choice (log 39). -/
def removeFrom (last : Bool) (run : Nat) : List Bool → List Bool × Bool
  | [] => ([], true)
  | b :: rest =>
    if run = 6 then
      let (found, ok) := removeFrom b 1 rest
      (found, ok && b != last)
    else
      let (found, ok) := removeFrom b (if b = last then run + 1 else 1) rest
      (b :: found, ok)

/-- A field of `w` bits and what follows it. -/
def takeBits (w : Nat) (l : List Bool) : Option (Nat × List Bool) :=
  if w ≤ l.length then some (natOf (l.take w), l.drop w) else none

def takeStation (l : List Bool) : Option (Station × List Bool) :=
  match takeBits 3 l with
  | some (n, rest) => if h : n < 6 then some (⟨n, h⟩, rest) else none
  | none => none

def takeLevel (l : List Bool) : Option (Level × List Bool) :=
  (takeBits 3 l).map fun (n, rest) => (Fin.ofNat 8 n, rest)

def takeBit (l : List Bool) : Option (Bool × List Bool) :=
  match l with
  | [] => none
  | b :: rest => some (b, rest)

def takeClaim (l : List Bool) : Option (Claim × List Bool) := do
  let (code, l) ← takeBits 6 l
  let (level, l) ← takeLevel l
  return ({ code := code, level := level }, l)

def takeClaims : Nat → List Bool → Option (List Claim × List Bool)
  | 0, l => some ([], l)
  | n + 1, l => do
    let (c, l) ← takeClaim l
    let (cs, l) ← takeClaims n l
    return (c :: cs, l)

def takeValued (q : Quantity) (l : List Bool) : Option (Valued × List Bool) := do
  let (valid, l) ← takeBit l
  let (value, l) ← takeBits q.width l
  return ({ valid := valid, value := value }, l)

/-- The published quantities of the role coded `role` (R169, R170). -/
def takePublished (role : Nat) (l : List Bool) : Option (Published × List Bool) :=
  match role with
  | 0 => do
    let (v, l) ← takeValued .packVoltage l
    let (d, l) ← takeValued .dischargeLimit l
    let (r, l) ← takeValued .regenAcceptance l
    let (c, l) ← takeValued .contactorState l
    return (.pack v d r c, l)
  | 1 => do
    let (v, l) ← takeValued .driveSpeed l
    let (k, l) ← takeValued .linkVoltage l
    return (.drive v k, l)
  | 2 => do
    let (w, l) ← takeValued .wheelSpeed l
    let (t, l) ← takeValued .throttle l
    let (b, l) ← takeValued .brake l
    return (.cockpit w t b, l)
  | _ => do
    let (c, l) ← takeValued .charger l
    return (.charger c, l)

def takeBeacon (l : List Bool) : Option (Beacon × List Bool) := do
  let (sender, l) ← takeStation l
  let (role, l) ← takeBits 2 l
  let (period, l) ← takeBits 2 l
  let period ← Period.ofBits period
  let (sequence, l) ← takeBits 4 l
  let (joining, l) ← takeBit l
  let (rejoin, l) ← takeBit l
  let (isolated, l) ← takeBit l
  let (parking, l) ← takeBit l
  let (ownLevel, l) ← takeLevel l
  let (posture, l) ← takeBits 3 l
  let posture ← Posture.ofBits posture
  let (cl, l) ← takeLevel l
  let (count, l) ← takeBits 3 l
  let (claims, l) ← takeClaims count l
  let (published, l) ← takePublished role l
  return ({ sender := sender, period := period, sequence := Fin.ofNat 16 sequence,
            flags := { joining := joining, rejoin := rejoin, isolated := isolated, parking := parking },
            ownLevel := ownLevel, posture := posture, cl := cl, claims := claims,
            published := published }, l)

/-- The frame a body of the given kind holds, and the bits after it. -/
def takeFrame (kind : FrameKind) (l : List Bool) : Option (Frame × List Bool) :=
  match kind with
  | .alert => do
    let (sender, l) ← takeStation l
    let (ownLevel, l) ← takeLevel l
    let (claim, l) ← takeClaim l
    return (.alert { sender := sender, ownLevel := ownLevel, claim := claim }, l)
  | .cease => do
    let (sender, l) ← takeStation l
    let (target, l) ← takeStation l
    let (reason, l) ← takeBit l
    return (.cease { sender := sender, target := target,
                     reason := if reason then .selfContained else .score }, l)
  | .readmit => do
    let (sender, l) ← takeStation l
    let (target, l) ← takeStation l
    return (.readmit { sender := sender, target := target }, l)
  | .beacon => (takeBeacon l).map fun (b, l) => (.beacon b, l)
  | .wake => (takeStation l).map fun (s, l) => (.wake s, l)

/-- A good frame (R25): body of the right length, good CRC, sender equal to the key's station, named
values only. -/
def goodFrame (key : Nat) (kind : FrameKind) (rest : List Bool) : Option Frame :=
  match takeFrame kind rest with
  | some (f, crc) =>
    let body := rest.take (rest.length - crc.length)
    if crc.length = 16 ∧ natOf crc = (crc16 body).toNat ∧ f.sender.val = key ∧ f.wf then some f
    else none
  | none => none

/-- The classes of R25. -/
inductive FrameClass where
  | good (f : Frame)
  | attributed (key : Fin 8)
  | unattributed
  deriving DecidableEq, Repr

/-- The bits hold a run of dominant by which the line is stuck (R29); `run` dominant bits came before them. -/
def stuckRun (run : Nat) : List Bool → Bool
  | [] => decide (Config.stuckBits < run)
  | b :: rest =>
    if b then decide (Config.stuckBits < run) || stuckRun 0 rest else stuckRun (run + 1) rest

/-- The check of R25 on the bits heard from a start bit to the idle line, inserted bits included. A frame cut by a
stuck line is unattributed whatever its key holds (R25, R30; log 22); its coding is broken, so it is never good.
A dominant run over 2 ms that begins on an idle line is answered unattributed too: by R14 its first bit is a start
bit, by R30 it belongs to no frame, and that it counts as a bad frame here is the model's choice (log 22). `heard` holds
none of the recessive bits by which the line becomes idle after the last bit of the frame, the model's choice too: R14
does not say which of the bits before the idle belong to the frame (log 39). -/
def classifyFrame (heard : List Bool) : FrameClass :=
  let (found, ok) := removeFrom true 0 heard
  let bits := found.drop 1
  if bits.length < 7 then .unattributed
  else
    let six := bits.take 6
    if (bits.drop 6).head? ≠ some (keyParity six) then .unattributed
    else
      let key := natOf (six.drop 3)
      let good :=
        if ok then
          match FrameKind.ofRank (natOf (six.take 3)) with
          | some kind => goodFrame key kind (bits.drop 7)
          | none => none
        else none
      match good with
      | some f => .good f
      | none => if stuckRun 0 heard then .unattributed else .attributed (Fin.ofNat 8 key)

/-- The command that a frame heard brings to a station whose number is `own` (R25, R26). An attributed bad frame that
names the own station is told apart by the command's meaning. -/
def frameCommand (own : Station) (heard : List Bool) : Instr :=
  match classifyFrame heard with
  | .unattributed => .unattributedBadFrame
  | .attributed key => .attributedBadFrame key
  | .good f =>
    if f.sender = own then .ownNumberFrame f.kind
    else
      match f with
      | .alert a => .alertReceived a
      | .cease c => .ceaseReceived c
      | .readmit r => .readmitReceived r
      | .beacon b => .beaconReceived b
      | .wake s => .wakeFrameReceived s

end Sys2Proof
end

