-- ==== Sys2Proof/Machine/State.lean ====
section
/-! DEFINITION. The state of one SX310, block by block as 00 section 3 divides it, the queue of commands that
wait, and the state after a reset. -/

namespace Sys2Proof.Machine

/-! ### Start control -/

/-- The station states (the table of 01). -/
inductive StationState where
  | hold | config | join | run | parking | parked
  deriving DecidableEq, Repr

/-- A place of the population record (R9). -/
structure Place where
  role : Option Role
  clash : Nat
  deriving DecidableEq, Repr

/-- The cause record (R13). -/
structure Cause where
  powerOn : Bool
  pin : Bool
  restart : Bool
  deriving DecidableEq, Repr

/-- Start control. -/
structure StartControl where
  station : StationState
  straps : Straps
  /-- The station has been in RUN since the reset (R11, R110). -/
  everRun : Bool
  /-- The discovery counter (R8); 0 from a reset until the seal, where no rule gives it a value (log 31). -/
  discovery : Nat
  population : Six Place
  /-- The two conditions as the previous run of the population check found them (R10). -/
  missingHeld : Bool
  conflictHeld : Bool
  cause : Cause
  /-- Milliseconds left of the configuration window (R5); 0 out of CONFIG, where no rule gives it a value (log 31). -/
  window : Nat
  /-- Milliseconds to the next own beacon-timer expiry; none while the timer is stopped. -/
  beaconTimer : Option Nat
  /-- The park acceptor is ARMED (R163). -/
  parkArmed : Bool
  deriving DecidableEq, Repr

/-! ### Configuration set -/

/-- Supervision start modes (R3). -/
inductive StartMode where
  | auto | onFirstRefresh
  deriving DecidableEq, Repr

/-- The fifteen parameters (R3) and the sealed flag (R7). -/
structure ConfigSet where
  sealed : Bool
  period : Period
  lossLimit : Nat
  muteHold : Nat
  quorum : Nat
  nominalMotoring : Nat
  nominalRegen : Nat
  motoringRise : Nat
  regenRise : Nat
  fallbackDischarge : Nat
  walk : Nat
  cruise : Nat
  reload : Nat
  startMode : StartMode
  strict : Bool
  enables : BitVec 4
  deriving DecidableEq, Repr

/-- The defaults of R3, the sealed flag clear. -/
def ConfigSet.default : ConfigSet :=
  { sealed := false, period := .ms10, lossLimit := 6, muteHold := 32, quorum := 2,
    nominalMotoring := 480, nominalRegen := 120, motoringRise := 8, regenRise := 4,
    fallbackDischarge := 160, walk := 60, cruise := 200, reload := 50,
    startMode := .onFirstRefresh, strict := false, enables := 15#4 }

/-! ### Line interface -/

/-- A frame in a transmit queue: its attempt count (R23) and whether it is committed (02 section 2.4). -/
structure Queued (α : Type) where
  frame : α
  attempt : Nat
  committed : Bool
  deriving DecidableEq, Repr

/-- A BEACON in the beacon slot; `numbered` once its sequence number has been written (R17). -/
structure OutBeacon where
  beacon : Beacon
  numbered : Bool
  deriving DecidableEq, Repr

/-- A directive (R18). -/
inductive Directive where
  | cease (target : Station) (reason : MuteReason)
  | readmit (target : Station)
  deriving DecidableEq, Repr

/-- The four transmit queues (02 section 2.4). -/
inductive TxQueue where
  | alert | directive | beacon | wake
  deriving DecidableEq, Repr

/-- The frames whose places commitment decides: the alert queue (R19), the beacon slot and the parking beacon
that waits for it (R21). -/
structure HeldFrames where
  alerts : List (Queued Alert)
  beacon : Option (Queued OutBeacon)
  parkingWaiting : Option Beacon
  deriving DecidableEq, Repr

/-- The attempt on the line: the queue whose head is being sent, whether that frame was committed before the
attempt began, and the held frames as they stand if the attempt has not won contention (log 9). -/
structure Attempt where
  queue : TxQueue
  wasCommitted : Bool
  ifLost : HeldFrames
  deriving DecidableEq, Repr

/-- The LINE-STUCK condition (R29): it does not hold; the line is stuck; the line is released and
`left` milliseconds of one beacon period are still to pass. -/
inductive StuckLine where
  | clear
  | stuck
  | released (left : Nat)
  deriving DecidableEq, Repr

/-- The line interface. The wake slot holds the sender of its WAKE, which is all a WAKE carries. While an
attempt is on the line the held frames are those of an attempt that has won contention (log 9). -/
structure LineInterface extends HeldFrames where
  directives : List (Queued Directive)
  wake : Option (Queued Station)
  attempt : Option Attempt
  sequence : Fin 16
  txFailures : Nat
  lineErrors : Nat
  /-- The LINE-DEGRADED condition holds (R28). -/
  degraded : Bool
  stuck : StuckLine
  deriving DecidableEq, Repr

/-- The line interface after every reset (R12, R17, R18, R24, R28, R29). -/
def LineInterface.initial : LineInterface :=
  { alerts := [], directives := [], beacon := none, parkingWaiting := none, wake := none,
    attempt := none, sequence := 0, txFailures := 0, lineErrors := 0, degraded := false,
    stuck := .clear }

/-! ### Peer view -/

/-- Entry states (R33). -/
inductive EntryState where
  | absent | live | suspect | lost | parked | muted | probation
  deriving DecidableEq, Repr

/-- The causes of PEER-DOWN (R50). -/
inductive DownCause where
  | lost | restarted | muted | probation
  deriving DecidableEq, Repr

/-- An entry of the peer view table (R33). The role is the role of `published`, whose absence is R33's
'no value' with every quantity invalid. -/
structure PeerEntry where
  state : EntryState
  published : Option Published
  lastSeq : Fin 16
  heard : Bool
  age : Nat
  score : Nat
  period : Option Period
  ownLevel : Level
  posture : Option Posture
  cl : Level
  flags : Flags
  claims : List Claim
  selfCount : Nat
  ceasePending : Bool
  muteReason : Option MuteReason
  muteHold : Option Nat
  frames : Nat
  /-- The cause PEER-DOWN carries while it holds (R50, R51; log 21). -/
  downCause : DownCause
  deriving DecidableEq, Repr

/-- An entry after every reset (R33). -/
def PeerEntry.initial : PeerEntry :=
  { state := .absent, published := none, lastSeq := 0, heard := false, age := 0, score := 0,
    period := none, ownLevel := 0, posture := none, cl := 0, flags := Flags.clear, claims := [],
    selfCount := 0, ceasePending := false, muteReason := none, muteHold := none, frames := 0,
    downCause := .lost }

/-! ### Quantity selector -/

/-- An own value with its freshness count (R55). -/
structure OwnValue where
  quantity : Quantity
  value : Nat
  valid : Bool
  fresh : Nat
  deriving DecidableEq, Repr

/-- The own values after every reset (R55). -/
def OwnValue.initial (role : Role) : List OwnValue :=
  role.quantities.map fun q => { quantity := q, value := q.restrictive, valid := false, fresh := 0 }

/-- Which source of the source table gave a served value (R59, R60). -/
inductive Rank where
  | primary | secondary | fallback
  deriving DecidableEq, Repr

/-- A served value: the value, the station that gave it (none for a fallback) and its rank. -/
structure Served where
  value : Nat
  source : Option Station
  rank : Rank
  deriving DecidableEq, Repr

/-- The eight shared quantities in source-table order (R58); none where unavailable. -/
structure ServedValues where
  packVoltage : Option Served
  discharge : Option Served
  acceptance : Option Served
  contactor : Option Served
  speed : Option Served
  throttle : Option Served
  brake : Option Served
  charger : Option Served
  deriving DecidableEq, Repr

/-- A value served as its fallback. -/
def Served.ofFallback (v : Nat) : Option Served := some { value := v, source := none, rank := .fallback }

/-- The served values while nothing serves: the fallbacks of R58 with discharge limit `d`. -/
def ServedValues.fallbacks (d : Nat) : ServedValues :=
  { packVoltage := none, discharge := Served.ofFallback d, acceptance := Served.ofFallback 0,
    contactor := Served.ofFallback 0, speed := none, throttle := Served.ofFallback 0,
    brake := Served.ofFallback 1, charger := Served.ofFallback 0 }

/-- The speed bands (R70). -/
inductive Band where
  | walk | mid | fast | unknown
  deriving DecidableEq, Repr

/-- The quantity selector. -/
structure Selector where
  own : List OwnValue
  served : ServedValues
  band : Band
  speedCount : Nat
  voltageCount : Nat
  speedDisputed : Bool
  voltageDisputed : Bool
  brakeCount : Nat
  /-- The conditions of BRAKE-THROTTLE, SPEED-UNKNOWN and CHARGE-INTERLOCK hold (R67 to R69). -/
  brakeHolds : Bool
  speedUnknown : Bool
  chargeHolds : Bool
  deriving DecidableEq, Repr

/-- The selector after every reset (R55, R61, R123; log 38). -/
def Selector.initial (own : List OwnValue) : Selector :=
  { own := own, served := ServedValues.fallbacks ConfigSet.default.fallbackDischarge,
    band := .unknown, speedCount := 0, voltageCount := 0, speedDisputed := false,
    voltageDisputed := false, brakeCount := 0, brakeHolds := false, speedUnknown := false,
    chargeHolds := false }

/-! ### Isolation unit -/

/-- Own isolation states (R134). -/
inductive IsolationState where
  | active | isolated | rejoining
  deriving DecidableEq, Repr

/-- A place of the cease record (R134). -/
structure CeasePlace where
  sender : Station
  age : Nat
  reason : MuteReason
  deriving DecidableEq, Repr

/-- A place of the readmit record (R134). -/
structure ReadmitPlace where
  sender : Station
  age : Nat
  deriving DecidableEq, Repr

/-- The state a peer's probation came from (R147). -/
inductive Origin where
  | muted | lost
  deriving DecidableEq, Repr

/-- The probation record (R134). -/
structure Probation where
  station : Station
  origin : Origin
  clean : Nat
  deriving DecidableEq, Repr

/-- The isolation unit (R134). -/
structure Isolation where
  own : IsolationState
  cease : List CeasePlace
  readmit : List ReadmitPlace
  /-- The rejoin timer; none while stopped. -/
  rejoinTimer : Option Nat
  queue : List Station
  probation : Option Probation
  suspended : Bool
  /-- The readmit-owed list. -/
  owed : List Station
  deriving DecidableEq, Repr

/-- The isolation unit after every reset (R134). -/
def Isolation.initial : Isolation :=
  { own := .active, cease := [], readmit := [], rejoinTimer := none, queue := [],
    probation := none, suspended := false, owed := [] }

/-! ### Containment engine -/

/-- Where a record stands: its condition holds (PENDING or TAKEN by the taken mark, R73), it dwells with
so many own periods left, or it is latched. -/
inductive Life where
  | holds
  | dwell (remaining : Nat)
  | latched
  deriving DecidableEq, Repr

/-- The synthetic parameter of a peer's record (R73): its station number, and for PEER-DOWN a cause. -/
structure PeerParam where
  station : Station
  cause : Option DownCause
  deriving DecidableEq, Repr

/-- A record of the fault table (R73). Its origin is fixed by its code (R74). -/
structure Record where
  code : Nat
  level : Level
  fm : Nat
  fr : Nat
  life : Life
  taken : Bool
  count : Nat
  firstSeen : BitVec 16
  unread : Bool
  measured : Option (BitVec 16)
  detect : Option (BitVec 4)
  folded : Option Nat
  param : Option PeerParam
  deriving DecidableEq, Repr

/-- A frame of the containment stack (R96). -/
structure StackFrame where
  saved : Level
  code : Nat
  level : Level
  spent : Bool
  deriving DecidableEq, Repr

/-- The states of the contactor sequence (R116). -/
inductive Contactor where
  | held | releasing | released
  deriving DecidableEq, Repr

/-- The containment engine. -/
structure Engine where
  /-- The fault table, in ascending order of code: at most one record of a code, at most twelve of
  code 8 or more (R72; log 19). -/
  records : List Record
  /-- The containment stack, top frame first (R96; log 19). -/
  stack : List StackFrame
  cl : Level
  /-- The own beacon count (R73). -/
  beaconCount : BitVec 16
  contactor : Contactor
  releaseCount : Nat
  deriving DecidableEq, Repr

/-- The containment engine after every reset (R72, R92, R96, R116). -/
def Engine.initial : Engine :=
  { records := [], stack := [], cl := 0, beaconCount := 0, contactor := .released,
    releaseCount := 0 }

/-! ### Envelope unit, supervision timer, module link, pins -/

/-- The envelope unit (R122). A rise timer is none while stopped, else the milliseconds left. -/
structure Envelope where
  tm : Nat
  tr : Nat
  om : Nat
  outr : Nat
  motoringTimer : Option Nat
  regenTimer : Option Nat
  /-- The changed-since-read flag. -/
  changed : Bool
  deriving DecidableEq, Repr

/-- The envelope unit after every reset (R122). -/
def Envelope.initial : Envelope :=
  { tm := 0, tr := 0, om := 0, outr := 0, motoringTimer := none, regenTimer := none,
    changed := false }

/-- The supervision timer (R158). -/
structure Supervision where
  running : Bool
  count : Nat
  firstToken : Bool
  errors : Nat
  strict : Bool
  deriving DecidableEq, Repr

/-- The supervision timer after every reset (R158). -/
def Supervision.initial : Supervision :=
  { running := false, count := 0, firstToken := false, errors := 0, strict := false }

/-- Outcomes of requests (00 section 5.5), coded by R171. -/
inductive ReqOutcome where
  | done | doneWithStatus | busy | unavailable
  deriving DecidableEq, Repr

/-- A response (R154, R171): the request code it answers, the outcome and bytes 1 to 6. -/
structure Response where
  code : BitVec 6
  outcome : ReqOutcome
  payload : BitVec 48
  deriving DecidableEq, Repr

/-- The module link. -/
structure Link where
  /-- The response queue, oldest first (R154). -/
  responses : List Response
  /-- The restart acceptor is ARMED (R162). -/
  restartArmed : Bool
  /-- The eight bytes the last complete transaction clocked out, byte 0 most significant. -/
  out : Option (BitVec 64)
  deriving DecidableEq, Repr

/-- The module link after a POWER-ON or PIN reset (R12, R154, R162). -/
def Link.initial : Link := { responses := [], restartArmed := false, out := none }

/-- The four discrete outputs (07). -/
structure Pins where
  gateKill : Bool
  lamp : Bool
  contactorHold : Bool
  attn : Bool
  deriving DecidableEq, Repr

/-- The outputs from the end of any reset (R11). -/
def Pins.initial : Pins := { gateKill := true, lamp := true, contactorHold := false, attn := false }

/-! ### The machine -/

/-- One SX310 and the queue of commands that wait for it. -/
structure State where
  pending : List Instr
  start : StartControl
  config : ConfigSet
  line : LineInterface
  peers : Six PeerEntry
  selector : Selector
  isolation : Isolation
  engine : Engine
  envelope : Envelope
  supervision : Supervision
  link : Link
  /-- The levels of the trip inputs, bit n for input n (R86). -/
  trips : BitVec 4
  pins : Pins
  deriving DecidableEq, Repr

/-- The part raises no fault: every command of the spec has an effect or leaves the state as it is
(log 26). -/
inductive Fault where
  deriving DecidableEq, Repr

/-- Refusals. No meaning raises one. -/
inductive Refusal where
  /-- Raised by `exec` for a command that has no meaning yet; safe. No command is left so. -/
  | notModelled (mnemonic : String)
  deriving DecidableEq, Repr

/-- Start control after a reset that read `straps` and left the cause record at `cause` (R1, R2, R9, R12). The
discovery counter, and in HOLD the configuration window, hold 0 (log 31). -/
def StartControl.initial (straps : Straps) (cause : Cause) : StartControl :=
  let empty : Six Place := Six.all { role := none, clash := 0 }
  match straps.station with
  | some own =>
    { station := .config, straps := straps, everRun := false, discovery := 0,
      population := empty.set own { role := some straps.role, clash := 0 },
      missingHeld := false, conflictHeld := false, cause := cause, window := Config.windowMs,
      beaconTimer := none, parkArmed := false }
  | none =>
    { station := .hold, straps := straps, everRun := false, discovery := 0, population := empty,
      missingHeld := false, conflictHeld := false, cause := cause, window := 0,
      beaconTimer := none, parkArmed := false }

/-- The machine at the end of a reset that read `straps` and left the cause record at `cause`, with trip
inputs at `trips` and the commands `pending` waiting (R12). -/
def State.afterReset (straps : Straps) (cause : Cause) (trips : BitVec 4) (pending : List Instr) : State :=
  { pending := pending, start := StartControl.initial straps cause, config := ConfigSet.default,
    line := LineInterface.initial, peers := Six.all PeerEntry.initial,
    selector := Selector.initial (OwnValue.initial straps.role), isolation := Isolation.initial,
    engine := Engine.initial, envelope := Envelope.initial, supervision := Supervision.initial,
    link := Link.initial, trips := trips, pins := Pins.initial }

/-- The machine right after a POWER-ON reset, its number straps reading 0, its role straps PACK and no
trip input asserted (DESIGN CHOICE, log 3). -/
def State.reset : State :=
  State.afterReset { number := 0, role := .pack } { powerOn := true, pin := false, restart := false }
    0#4 []

end Sys2Proof.Machine
end

