-- ==== Sys2Proof/Machine/Ops.lean ====
section
/-! DEFINITION. The named operations on the state that every block uses: replacing a block, reading and
writing an entry of the peer view table, counting that stops at a bound, the response queue. -/

namespace Sys2Proof.Machine

/-- Counting up that stays at `limit` once there. -/
def addSat (limit n k : Nat) : Nat := min limit (n + k)

namespace State

def setStart (s : State) (b : StartControl) : State := { s with start := b }
def setConfig (s : State) (b : ConfigSet) : State := { s with config := b }
def setLine (s : State) (b : LineInterface) : State := { s with line := b }
def setPeers (s : State) (b : Six PeerEntry) : State := { s with peers := b }
def setSelector (s : State) (b : Selector) : State := { s with selector := b }
def setIsolation (s : State) (b : Isolation) : State := { s with isolation := b }
def setEngine (s : State) (b : Engine) : State := { s with engine := b }
def setEnvelope (s : State) (b : Envelope) : State := { s with envelope := b }
def setSupervision (s : State) (b : Supervision) : State := { s with supervision := b }
def setLink (s : State) (b : Link) : State := { s with link := b }
def setTrips (s : State) (b : BitVec 4) : State := { s with trips := b }
def setPins (s : State) (b : Pins) : State := { s with pins := b }
def setPending (s : State) (b : List Instr) : State := { s with pending := b }

/-- The own station number (R1). In HOLD, where the straps give none, no rule reads it. -/
def own (s : State) : Station := s.start.straps.station.getD 0

/-- The station state. -/
def station (s : State) : StationState := s.start.station

/-- The station state with the other state of start control kept. -/
def setStation (s : State) (st : StationState) : State :=
  s.setStart { s.start with station := st }

/-- The entry of station `i` in the peer view table. -/
def peer (s : State) (i : Station) : PeerEntry := s.peers.get i

/-- The entry of station `i` replaced, no record evaluated. -/
def setPeer (s : State) (i : Station) (e : PeerEntry) : State := s.setPeers (s.peers.set i e)

/-- A response joins the tail of the response queue (R154). -/
def respond (s : State) (r : Response) : State :=
  s.setLink { s.link with responses := s.link.responses ++ [r] }

end State

/-- A response without payload. -/
def Response.plain (code : BitVec 6) (o : ReqOutcome) : Response :=
  { code := code, outcome := o, payload := 0 }

/-- The request code of PARK-ENTER (R171). -/
def parkEnterCode : BitVec 6 := 15

/-- The beacon period in milliseconds. -/
def periodMs : Period → Nat
  | .ms5 => 5
  | .ms10 => 10
  | .ms20 => 20

/-- The states in which the line, the beacon timer and the trip inputs are acted on (R8, R32, R86). -/
def StationState.onLine : StationState → Bool
  | .join | .run | .parking => true
  | _ => false

/-- The states in which the per-period work of a running station is done (R34, R61, R120). -/
def StationState.riding : StationState → Bool
  | .run | .parking => true
  | _ => false

end Sys2Proof.Machine
end

