-- ==== Sys2Proof/Machine/Operands.lean ====
section
/-! DEFINITION. The operands of requests: SETUP's parameters and clamping (R3, R4), PUBLISH's quantities and
clamping (R56), REPORT's clamping (R78), tokens. -/

namespace Sys2Proof.Machine

/-! ### SETUP -/

/-- A value taken to the nearest limit of a range. -/
def nearest (low high v : Nat) : Nat := max low (min high v)

/-- The beacon period a value is taken to (R3). -/
def clampPeriod (v : Nat) : Period :=
  if v ≤ 7 then .ms5 else if v ≤ 14 then .ms10 else .ms20

/-- The value a parameter holds after SETUP, by identifier (R3); none for an identifier that is not
assigned. -/
def clampParameter (id v : Nat) : Option Nat :=
  match id with
  | 0 => some (periodMs (clampPeriod v))
  | 1 => some (nearest 4 15 v)
  | 2 => some (nearest 8 255 v)
  | 3 => some (nearest 1 2 v)
  | 4 => some (min 1023 v)
  | 5 => some (min 1023 v)
  | 6 => some (nearest 1 64 v)
  | 7 => some (nearest 1 64 v)
  | 8 => some (min 1023 v)
  | 9 => some (nearest 10 1000 v)
  | 10 => some (nearest 10 1000 v)
  | 11 => some (nearest 10 250 v)
  | 12 => some (min 1 v)
  | 13 => some (min 1 v)
  | 14 => some v
  | _ => none

/-- The configuration set with parameter `id` holding the clamped value `v` (R4). The trip enables are
bits 0 to 3 of the value's low byte (R171). -/
def storeParameter (c : ConfigSet) (id v : Nat) : ConfigSet :=
  match id with
  | 0 => { c with period := clampPeriod v }
  | 1 => { c with lossLimit := v }
  | 2 => { c with muteHold := v }
  | 3 => { c with quorum := v }
  | 4 => { c with nominalMotoring := v }
  | 5 => { c with nominalRegen := v }
  | 6 => { c with motoringRise := v }
  | 7 => { c with regenRise := v }
  | 8 => { c with fallbackDischarge := v }
  | 9 => { c with walk := v }
  | 10 => { c with cruise := v }
  | 11 => { c with reload := v }
  | 12 => { c with startMode := if v = 0 then .auto else .onFirstRefresh }
  | 13 => { c with strict := decide (v ≠ 0) }
  | 14 => { c with enables := BitVec.ofNat 4 v }
  | _ => c

/-! ### PUBLISH -/

/-- The quantity of an identifier (R55). -/
def quantityOf : Nat → Option Quantity
  | 0 => some .packVoltage
  | 1 => some .dischargeLimit
  | 2 => some .regenAcceptance
  | 3 => some .contactorState
  | 4 => some .driveSpeed
  | 5 => some .linkVoltage
  | 6 => some .wheelSpeed
  | 7 => some .throttle
  | 8 => some .brake
  | 9 => some .charger
  | _ => none

/-- A quantity that takes two codes (R55, R56). -/
def twoValued : Quantity → Bool
  | .contactorState | .brake | .charger => true
  | _ => false

/-- The value PUBLISH stores (R56): above its range the top of the range, and for a two-valued quantity
whose code is neither of the two the restrictive value. -/
def clampPublished (q : Quantity) (v : Nat) : Nat :=
  if v ≤ q.top then v else if twoValued q then q.restrictive else q.top

/-! ### REPORT -/

/-- The level of a REPORT brought into range (R78). -/
def clampLevel (l : BitVec 4) : Level :=
  if l.toNat = 0 then 1 else if 7 < l.toNat then 7 else Fin.ofNat 8 l.toNat

/-- A fraction of a REPORT brought into range (R78). -/
def clampFraction (f : BitVec 9) : Nat := min 256 f.toNat

/-- The operands of a REPORT were brought into range. -/
def reportClamped (l : BitVec 4) (fm fr : BitVec 9) : Bool :=
  decide ((clampLevel l).val ≠ l.toNat ∨ clampFraction fm ≠ fm.toNat ∨ clampFraction fr ≠ fr.toNat)

/-! ### Tokens and station numbers -/

/-- The tokens of REFRESH and RESTART (R171). -/
inductive Token where
  | first | second | other
  deriving DecidableEq, Repr

def tokenOf (b : BitVec 8) : Token :=
  if b = 1 then .first else if b = 2 then .second else .other

/-- The station a byte names, none outside 0 to 5 (R157). -/
def stationOf (b : BitVec 8) : Option Station :=
  if h : b.toNat < 6 then some ⟨b.toNat, h⟩ else none

end Sys2Proof.Machine
end

