-- ==== Sys2Proof/Machine/Flags.lean ====
section
/-! DEFINITION. What is worked out from the state and not stored twice: origins (R74), own level (R103),
posture (R104), fraction minima (R105), claims (R91), trust (R140), the outputs (07). -/

namespace Sys2Proof.Machine

/-! ### Records -/

/-- Record origins (R73). -/
inductive RecordOrigin where
  | trip | supervision | isolation | report | synthetic | folding
  deriving DecidableEq, Repr

/-- The origin of a code (R74). -/
def originOf (code : Nat) : RecordOrigin :=
  if code = 1 then .trip
  else if code = 2 then .supervision
  else if code = 3 then .isolation
  else if code = 4 then .folding
  else if 8 ≤ code ∧ code ≤ 23 then .report
  else .synthetic

/-- A code of local origin (R74). -/
def isLocal (code : Nat) : Bool := decide (originOf code ≠ .synthetic)

/-- A code whose record stands in a general slot (R72). -/
def isGeneral (code : Nat) : Bool := decide (8 ≤ code)

/-- The record of a code, if present. -/
def findRecord (code : Nat) (l : List Record) : Option Record := l.find? fun r => r.code == code

/-- The record of a code in the fault table, if present. -/
def State.record (s : State) (code : Nat) : Option Record := findRecord code s.engine.records

/-- Occupied general slots (R72). -/
def generalCount (l : List Record) : Nat := (l.filter fun r => isGeneral r.code).length

/-- The general slots are all occupied (R76). -/
def State.generalFull (s : State) : Bool :=
  decide (Config.generalSlots ≤ generalCount s.engine.records)

/-- The highest level of a list of records, 0 for none. -/
def highestLevel (l : List Record) : Level := l.foldl (fun m r => max m r.level) 0

/-- The own level (R103). -/
def State.ownLevel (s : State) : Level :=
  highestLevel (s.engine.records.filter fun r => isLocal r.code)

/-- The least motoring fraction over the records present (R105). -/
def State.fmMin (s : State) : Nat := s.engine.records.foldl (fun m r => min m r.fm) 256

/-- The least regenerative fraction over the records present (R105). -/
def State.frMin (s : State) : Nat := s.engine.records.foldl (fun m r => min m r.fr) 256

/-- A record put into a list in the order of claims: by level, highest first, behind those of its own
level. -/
def insertClaim (r : Record) : List Record → List Record
  | [] => [r]
  | x :: rest => if x.level < r.level then r :: x :: rest else x :: insertClaim r rest

/-- The claims of a beacon (R91): the first four local-origin records by level, highest first, and by
code, lowest first. -/
def State.claims (s : State) : List Claim :=
  let ordered := (s.engine.records.filter fun r => isLocal r.code).foldl (fun l r => insertClaim r l) []
  (ordered.take Config.maxClaims).map fun r => { code := r.code, level := r.level }

/-- At least one record is unread (R115). -/
def State.anyUnread (s : State) : Bool := s.engine.records.any fun r => r.unread

/-- A record of at least this level is present, in any state. -/
def State.anyAtLeast (s : State) (l : Level) : Bool := s.engine.records.any fun r => decide (l ≤ r.level)

/-! ### Posture -/

/-- The vehicle posture of a containment level under an own isolation state (R104). -/
def postureOf (iso : IsolationState) (cl : Level) : Posture :=
  match iso with
  | .isolated => .isolated
  | .rejoining => .isolated
  | .active =>
    match cl.val with
    | 0 => .normal
    | 1 => .trim
    | 2 => .trim
    | 3 => .limp
    | 4 => .limp
    | 5 => .crawl
    | 6 => .coast
    | _ => .safeStop

def State.posture (s : State) : Posture := postureOf s.isolation.own s.engine.cl

/-! ### Peers -/

/-- LIVE or SUSPECT: the entry serves, adopts and is trusted (R47, R52, R140). -/
def EntryState.trusted : EntryState → Bool
  | .live | .suspect => true
  | _ => false

/-- LOST, MUTED or PROBATION: PEER-DOWN holds (R50). -/
def EntryState.down : EntryState → Bool
  | .lost | .muted | .probation => true
  | _ => false

/-- The role in the peer's last stored beacon (R33). -/
def PeerEntry.role (e : PeerEntry) : Option Role := e.published.map Published.role

/-- The peers this station trusts (R140). -/
def State.trustedPeers (s : State) : List Station :=
  stations.filter fun i => (s.peer i).state.trusted

/-! ### Outputs -/

/-- An enabled trip input is asserted (R86, R112). -/
def State.tripAsserted (s : State) : Bool := decide (s.trips &&& s.config.enables ≠ 0#4)

/-- GATE-KILL (R110, R112). -/
def State.gateKill (s : State) : Bool :=
  match s.station with
  | .run => decide (s.posture = .safeStop ∨ s.posture = .isolated) || s.tripAsserted
  | _ => true

/-- LAMP (R110, R114). -/
def State.lamp (s : State) : Bool :=
  match s.station with
  | .run => decide (s.posture ≠ .normal)
  | .parked => false
  | _ => true

/-- CONTACTOR-HOLD (R110, R116). -/
def State.contactorHold (s : State) : Bool :=
  s.station.riding && decide (s.start.straps.role = .pack ∧ s.engine.contactor ≠ .released)

/-- ATTN follows its conditions in this state (R110, R115). -/
def State.attnFollows (s : State) : Bool :=
  match s.station with
  | .hold => false
  | .config => false
  | .join => s.start.everRun
  | .run => true
  | .parking => true
  | .parked => true

/-- ATTN (R115). -/
def State.attn (s : State) : Bool := s.attnFollows && (s.anyUnread || s.envelope.changed)

/-- The four outputs as the rest of the state gives them. -/
def State.outputs (s : State) : Pins :=
  { gateKill := s.gateKill, lamp := s.lamp, contactorHold := s.contactorHold, attn := s.attn }

/-- The pins take the values the state gives (R110, R111, R115). -/
def State.drivePins (s : State) : State := s.setPins s.outputs

end Sys2Proof.Machine
end

