-- ==== Sys2Proof/Machine/Queues.lean ====
section
/-! DEFINITION. The four transmit queues of the line interface (R18 to R22) and the release of a parking
beacon when a park is abandoned (R21, R166). -/

namespace Sys2Proof.Machine

/-- A frame as it joins a queue: its first attempt is to come. -/
def Queued.fresh {α : Type} (f : α) : Queued α := { frame := f, attempt := 1, committed := false }

/-- The held frames changed by `f`, and with them what is held if the attempt on the line has not won
contention (log 9). -/
def LineInterface.hold (l : LineInterface) (f : HeldFrames → HeldFrames) : LineInterface :=
  { l with
    toHeldFrames := f l.toHeldFrames
    attempt := l.attempt.map fun a => { a with ifLost := f a.ifLost } }

def State.hold (s : State) (f : HeldFrames → HeldFrames) : State := s.setLine (s.line.hold f)

/-! ### Alert queue -/

/-- The lowest claim level among the alerts that are not committed (R19). -/
def lowestFreeLevel (l : List (Queued Alert)) : Option Level :=
  l.foldl (fun m q =>
    if q.committed then m
    else
      match m with
      | none => some q.frame.claim.level
      | some k => some (min k q.frame.claim.level)) none

/-- The alert queue after an ALERT is given to it (R19). -/
def placeAlert (a : Alert) (l : List (Queued Alert)) : List (Queued Alert) :=
  if l.length < Config.queueCapacity then l ++ [Queued.fresh a]
  else
    match lowestFreeLevel l with
    | none => l
    | some k =>
      if k ≤ a.claim.level then
        l.eraseP (fun q => !q.committed && decide (q.frame.claim.level = k)) ++ [Queued.fresh a]
      else l

def State.giveAlert (s : State) (a : Alert) : State :=
  s.hold fun h => { h with alerts := placeAlert a h.alerts }

/-! ### Directive queue -/

/-- The outcomes of giving a directive (R20). -/
inductive DirectiveOutcome where
  | queued | already | refused
  deriving DecidableEq, Repr

/-- Two directives of the same kind for the same target (R20). -/
def Directive.same : Directive → Directive → Bool
  | .cease t _, .cease u _ => decide (t = u)
  | .readmit t, .readmit u => decide (t = u)
  | _, _ => false

/-- What the directive queue answers to a directive (R20). -/
def directiveOutcome (d : Directive) (l : List (Queued Directive)) : DirectiveOutcome :=
  if l.any fun q => d.same q.frame then .already
  else if l.length < Config.queueCapacity then .queued
  else .refused

/-- The directive queue after a directive is given to it (R20). -/
def placeDirective (d : Directive) (l : List (Queued Directive)) : List (Queued Directive) :=
  match directiveOutcome d l with
  | .queued => l ++ [Queued.fresh d]
  | .already => l
  | .refused => l

def State.giveDirective (s : State) (d : Directive) : State :=
  s.setLine { s.line with directives := placeDirective d s.line.directives }

/-! ### Beacon slot and wake slot -/

def OutBeacon.fresh (b : Beacon) : Queued OutBeacon := Queued.fresh { beacon := b, numbered := false }

/-- The held frames after a periodic beacon is given (R21). -/
def HeldFrames.placeBeacon (b : Beacon) (h : HeldFrames) : HeldFrames :=
  if h.parkingWaiting.isSome then h
  else
    match h.beacon with
    | none => { h with beacon := some (OutBeacon.fresh b) }
    | some q =>
      if q.committed || q.frame.beacon.flags.parking then h
      else { h with beacon := some (OutBeacon.fresh b) }

def State.giveBeacon (s : State) (b : Beacon) : State := s.hold (HeldFrames.placeBeacon b)

/-- The held frames after the parking beacon is given (R21). It waits behind any committed beacon, and it
replaces any other, the parking beacon of an abandoned park too (log 10). -/
def HeldFrames.placeParking (b : Beacon) (h : HeldFrames) : HeldFrames :=
  match h.beacon with
  | some q =>
    if q.committed then { h with parkingWaiting := some b } else { h with beacon := some (OutBeacon.fresh b) }
  | none => { h with beacon := some (OutBeacon.fresh b) }

def State.giveParkingBeacon (s : State) (b : Beacon) : State := s.hold (HeldFrames.placeParking b)

/-- The held frames once the beacon has left its slot: a waiting parking beacon enters it (R21). -/
def HeldFrames.emptySlot (h : HeldFrames) : HeldFrames :=
  match h.parkingWaiting with
  | some b => { h with beacon := some (OutBeacon.fresh b), parkingWaiting := none }
  | none => { h with beacon := none }

def State.emptyBeaconSlot (s : State) : State := s.hold HeldFrames.emptySlot

/-- A WAKE is given to the wake slot (R21). -/
def State.giveWake (s : State) : State :=
  match s.line.wake with
  | some _ => s
  | none => s.setLine { s.line with wake := some (Queued.fresh s.own) }

/-- A parking beacon that waits, or stands in the slot not committed, is taken back (R21, R166). -/
def HeldFrames.withdrawParking (h : HeldFrames) : HeldFrames :=
  { h with
    parkingWaiting := none
    beacon :=
      match h.beacon with
      | some q => if q.frame.beacon.flags.parking && !q.committed then none else some q
      | none => none }

/-! ### Abandoning a park -/

/-- The park is abandoned (R166): the station returns to RUN and PARK-ENTER completes UNAVAILABLE. In any
state but PARKING there is no park to abandon. -/
def State.abandonPark (s : State) : State :=
  match s.station with
  | .parking =>
    ((s.setStation .run).hold HeldFrames.withdrawParking).respond
      (Response.plain parkEnterCode .unavailable)
  | _ => s

end Sys2Proof.Machine
end

