-- ==== Sys2Proof/Machine/Table.lean ====
section
/-! DEFINITION. The fault table and the containment stack: raising, presenting, ending and removing records,
folding, taking, unwinding, retaking and replacement (05, 06). -/

namespace Sys2Proof.Machine

/-- What a raise carries (R76). -/
structure Raise where
  code : Nat
  level : Level
  fm : Nat
  fr : Nat
  measured : Option (BitVec 16) := none
  input : Option TripInput := none
  param : Option PeerParam := none
  deriving DecidableEq, Repr

/-! ### The table as a list -/

/-- The record put at its place in ascending order of code. -/
def insertRecord (r : Record) : List Record → List Record
  | [] => [r]
  | x :: rest => if r.code < x.code then r :: x :: rest else x :: insertRecord r rest

/-- The record of a code changed by `f`, every other record kept. -/
def mapRecord (code : Nat) (f : Record → Record) (l : List Record) : List Record :=
  l.map fun r => if r.code = code then f r else r

/-- The table without the record of a code. -/
def eraseRecord (code : Nat) (l : List Record) : List Record := l.filter fun r => r.code != code

def State.setRecords (s : State) (l : List Record) : State :=
  s.setEngine { s.engine with records := l }

def State.updateRecord (s : State) (code : Nat) (f : Record → Record) : State :=
  s.setRecords (mapRecord code f s.engine.records)

/-! ### Taking -/

/-- The ALERT that the taking of a record builds (R18, R102): in PARKED none, and none for a SYNTHETIC
record or below level 4. -/
def State.alertFor (s : State) (code : Nat) (level : Level) : State :=
  if isLocal code && decide (4 ≤ level) && decide (s.station ≠ .parked) then
    s.giveAlert { sender := s.own, ownLevel := s.ownLevel, claim := { code := code, level := level } }
  else s

/-- The record of a code present is taken (R93): a frame is pushed, CL becomes its level, its taken mark
is set and its ALERT is queued. -/
def State.take (s : State) (code : Nat) (level : Level) : State :=
  let e := s.engine
  let frame : StackFrame := { saved := e.cl, code := code, level := level, spent := false }
  let s := s.setEngine
    { e with
      records := mapRecord code (fun r => { r with taken := true }) e.records
      stack := frame :: e.stack
      cl := level }
  s.alertFor code level

/-- A record is created and is taken or waits (R76, R93). -/
def State.createRecord (s : State) (r : Record) : State :=
  let s := s.setRecords (insertRecord r s.engine.records)
  if s.engine.cl < r.level then s.take r.code r.level else s

/-! ### Unwinding -/

/-- The frames and CL after spent frames at the top are popped (R97). -/
def popSpent (cl : Level) : List StackFrame → Level × List StackFrame
  | [] => (cl, [])
  | f :: rest => if f.spent then popSpent f.saved rest else (cl, f :: rest)

/-- The frame of a removed record that is not at the top is marked spent (R98). -/
def markSpent (code : Nat) (l : List StackFrame) : List StackFrame :=
  l.map fun f => if f.code = code && !f.spent then { f with spent := true } else f

/-- The stack and CL after the taken record of `code` is removed (R97, R98). -/
def unwind (code : Nat) (cl : Level) (l : List StackFrame) : Level × List StackFrame :=
  match l with
  | [] => (cl, [])
  | f :: rest =>
    if f.code = code && !f.spent then popSpent f.saved rest
    else (cl, markSpent code (f :: rest))

/-- The record of `code` leaves the table and its frame the stack, without retaking (R82, R97, R98). -/
def State.detach (s : State) (code : Nat) : State :=
  match s.record code with
  | none => s
  | some r =>
    let e := s.engine
    let after := if r.taken then unwind code e.cl e.stack else (e.cl, e.stack)
    s.setEngine { e with records := eraseRecord code e.records, stack := after.2, cl := after.1 }

/-- The better of two records to retake: the higher level, then the lower code (R99). The list is in
ascending order of code, so an equal level keeps the earlier one. -/
def betterWaiting (best : Option Record) (r : Record) : Option Record :=
  match best with
  | none => some r
  | some b => if b.level < r.level then some r else some b

/-- The waiting record that a retaking takes, if any (R99). -/
def waitingRecord (cl : Level) (l : List Record) : Option Record :=
  (l.filter fun r => !r.taken && decide (cl < r.level)).foldl betterWaiting none

/-- The retaking (R99). -/
def State.retake (s : State) : State :=
  match waitingRecord s.engine.cl s.engine.records with
  | none => s
  | some r => s.take r.code r.level

/-- A record is removed (R82) and the stack unwinds (6.4). -/
def State.removeRecord (s : State) (code : Nat) : State := (s.detach code).retake

/-! ### Raising -/

/-- The life of a record at its creation: SUPERVISION and OVERFLOW are latched (R87, R89). -/
def lifeAtCreation (code : Nat) : Life := if code = 2 ∨ code = 4 then .latched else .holds

/-- The detect flag of one input. -/
def detectFlag (n : TripInput) : BitVec 4 := 1#4 <<< n.val

/-- The detect flags a raise brings (R86). -/
def Raise.detect (a : Raise) : Option (BitVec 4) := a.input.map detectFlag

/-- The record a raise creates (R76). -/
def Raise.record (a : Raise) (beaconCount : BitVec 16) : Record :=
  { code := a.code, level := a.level, fm := a.fm, fr := a.fr, life := lifeAtCreation a.code,
    taken := false, count := 1, firstSeen := beaconCount, unread := true, measured := a.measured,
    detect := a.detect, folded := none, param := a.param }

/-- A re-raise returns a dwelling or latched record to its condition, but for SUPERVISION and OVERFLOW
(R77). -/
def lifeAfterReraise (code : Nat) (life : Life) : Life :=
  if code = 2 ∨ code = 4 then .latched
  else
    match life with
    | .holds => .holds
    | .dwell _ => .holds
    | .latched => .holds

/-- The fields that a re-raise changes by origin (R77). -/
def reraiseFields (a : Raise) (r : Record) : Record :=
  match originOf r.code with
  | .report =>
    { r with
      fm := min r.fm a.fm
      fr := min r.fr a.fr
      measured := match a.measured with | some m => some m | none => r.measured }
  | .trip =>
    { r with detect := match a.detect with | some d => some (r.detect.getD 0#4 ||| d) | none => r.detect }
  | .synthetic => { r with param := a.param }
  | .folding => r
  | .supervision => r
  | .isolation => r

/-- A record after a re-raise (R77). -/
def reraised (a : Raise) (r : Record) : Record :=
  { reraiseFields a r with
    count := addSat 255 r.count 1
    unread := true
    life := lifeAfterReraise r.code r.life }

/-- OVERFLOW as the first fold creates it (R89). -/
def firstOverflow (a : Raise) (beaconCount : BitVec 16) : Record :=
  { code := 4, level := a.level, fm := a.fm, fr := a.fr, life := .latched, taken := false, count := 1,
    firstSeen := beaconCount, unread := true, measured := none, detect := none, folded := some 1,
    param := none }

/-- OVERFLOW after a further fold (R89): fractions tightened, both counts one more. -/
def foldedInto (a : Raise) (r : Record) : Record :=
  { r with
    fm := min r.fm a.fm
    fr := min r.fr a.fr
    count := addSat 255 r.count 1
    folded := some (addSat 255 (r.folded.getD 0) 1)
    unread := true
    life := .latched }

/-- A raise is folded into OVERFLOW (R89). A higher level replaces the record (R101). -/
def State.fold (s : State) (a : Raise) : State :=
  match s.record 4 with
  | none => s.createRecord (firstOverflow a s.engine.beaconCount)
  | some r =>
    if r.level < a.level then
      ((s.detach 4).createRecord { foldedInto a r with level := a.level, taken := false }).retake
    else s.updateRecord 4 (foldedInto a)

/-- In PARKING a raise of level 3 or more abandons the park (R166). The station is in RUN from that raise on, also
for the rest of a longer handling (log 25). -/
def State.abandonAt (s : State) (level : Level) : State :=
  if 3 ≤ level then s.abandonPark else s

/-- A raise of a code that is absent: it is created, or folded when it needs a general slot and none is
free (R76). -/
def State.raiseAbsent (s : State) (a : Raise) : State :=
  if isGeneral a.code && s.generalFull then s.fold a
  else s.createRecord (a.record s.engine.beaconCount)

/-- A block raises a record (R76, R77). -/
def State.raise (s : State) (a : Raise) : State :=
  let s := s.abandonAt a.level
  match s.record a.code with
  | some _ => s.updateRecord a.code (reraised a)
  | none => s.raiseAbsent a

/-- A block presents a condition that holds (R49, R76): a record present is left as it is, and an absent
one is raised unless it would have to be folded. -/
def State.present (s : State) (a : Raise) : State :=
  match s.record a.code with
  | some _ => s
  | none => if isGeneral a.code && s.generalFull then s else s.raise a

/-- A replacement (R101): the old record goes without a dwell, the new one is raised, then the retaking. -/
def State.replace (s : State) (a : Raise) : State :=
  let s := s.abandonAt a.level
  ((s.detach a.code).raiseAbsent a).retake

/-! ### Ending -/

/-- The life of a record whose condition ends (R80). -/
def lifeAfterGone (level : Level) : Life :=
  if 5 ≤ level then .latched else .dwell Config.dwellPeriods

/-- A record after condition-gone (R80): one whose condition has ended already is left as it is. -/
def conditionEnded (r : Record) : Record :=
  match r.life with
  | .holds => { r with life := lifeAfterGone r.level }
  | _ => r

/-- Condition-gone for a code (R80). -/
def State.conditionGone (s : State) (code : Nat) : State := s.updateRecord code conditionEnded

/-- A condition is raised as it begins and presented while it goes on (R49). -/
def State.raiseOrPresent (s : State) (begins : Bool) (a : Raise) : State :=
  if begins then s.raise a else s.present a

/-- The record that brought CL to 7: its frame is the top frame, of level 7 (R107). -/
def State.broughtToSeven (s : State) (code : Nat) : Bool :=
  match s.engine.stack with
  | f :: _ => decide (f.code = code ∧ f.level = 7) && !f.spent
  | [] => false

end Sys2Proof.Machine
end

