-- ==== Sys2Proof/Machine/Quorum.lean ====
section
/-! DEFINITION. The quorum by which a station isolates itself and is readmitted (R141, R144). -/

namespace Sys2Proof.Machine

/-! ### The effective quorum and the counted senders -/

/-- The effective quorum (R141). -/
def State.effectiveQuorum (s : State) : Nat := max 1 (min s.config.quorum s.trustedPeers.length)

/-- The counted senders of the cease record (R141). -/
def State.countedCease (s : State) : Nat :=
  (s.isolation.cease.filter fun p => (s.peer p.sender).state.trusted).length

/-- The counted senders of the readmit record (R144). -/
def State.countedReadmit (s : State) : Nat :=
  (s.isolation.readmit.filter fun p => (s.peer p.sender).state.trusted).length

/-! ### Isolation and readmission -/

/-- CEASED as the isolation unit raises it (R88). -/
def ceasedRaise : Raise := { code := 3, level := 7, fm := 0, fr := 0 }

/-- The station isolates itself (R141). -/
def State.isolate (s : State) : State :=
  (s.setIsolation { s.isolation with own := .isolated }).raise ceasedRaise

/-- The station is readmitted (R144). -/
def State.readmitted (s : State) : State :=
  (s.setIsolation { s.isolation with
    own := .active, rejoinTimer := none, cease := [], readmit := [] }).removeRecord 3

/-- The comparisons of R141 and R144 in RUN and PARKING: at each change of the cease or the readmit record, at
each change of a peer entry into or out of LIVE and SUSPECT, and at each entry to RUN. -/
def State.compareQuorum (s : State) : State :=
  if s.station.riding then
    match s.isolation.own with
    | .active => if s.effectiveQuorum ≤ s.countedCease then s.isolate else s
    | .rejoining => if s.effectiveQuorum ≤ s.countedReadmit then s.readmitted else s
    | .isolated => s
  else s

end Sys2Proof.Machine
end

