-- ==== Sys2Proof/Machine/Selector.lean ====
section
/-! DEFINITION. The quantity selector: own values (R55, R57), sources and served values (R58 to R60), the speed
band (R70, R71), the conditions of SPEED-UNKNOWN and CHARGE-INTERLOCK (R67, R69), the comparisons of the
cross-checks (R63, R64, R66). -/

namespace Sys2Proof.Machine

/-! ### Sources -/

/-- The value of a quantity in a beacon that flags it valid (R59). -/
def valueIfValid (v : Valued) : Option Nat := if v.valid then some v.value else none

/-- The published value of a quantity, if the role publishes it and it is flagged valid (R55, R59). -/
def publishedValue (p : Published) (q : Quantity) : Option Nat :=
  match p, q with
  | .pack v _ _ _, .packVoltage => valueIfValid v
  | .pack _ d _ _, .dischargeLimit => valueIfValid d
  | .pack _ _ r _, .regenAcceptance => valueIfValid r
  | .pack _ _ _ c, .contactorState => valueIfValid c
  | .drive v _, .driveSpeed => valueIfValid v
  | .drive _ l, .linkVoltage => valueIfValid l
  | .cockpit w _ _, .wheelSpeed => valueIfValid w
  | .cockpit _ t _, .throttle => valueIfValid t
  | .cockpit _ _ b, .brake => valueIfValid b
  | .charger c, .charger => valueIfValid c
  | _, _ => none

/-- The own value of a quantity, present for the quantities of the role (R55). -/
def State.ownValue (s : State) (q : Quantity) : Option OwnValue :=
  s.selector.own.find? fun v => v.quantity == q

/-- What station `i` serves of a quantity (R59): the own station its valid own value, a LIVE or SUSPECT
peer what its last stored beacon flags valid. -/
def State.serves (s : State) (q : Quantity) (i : Station) : Option Nat :=
  if i = s.own then
    match s.ownValue q with
    | some v => if v.valid then some v.value else none
    | none => none
  else if (s.peer i).state.trusted then
    match (s.peer i).published with
    | some p => publishedValue p q
    | none => none
  else none

/-- The stations that serve a quantity with their values, lowest number first. -/
def State.servers (s : State) (q : Quantity) : List (Station × Nat) :=
  stations.filterMap fun i => (s.serves q i).map fun v => (i, v)

/-- The first server of a quantity as a served value of the given rank (R58). -/
def State.firstServer (s : State) (q : Quantity) (rank : Rank) : Option Served :=
  (s.servers q).head?.map fun (i, v) => { value := v, source := some i, rank := rank }

/-- The charger quantity, read from every serving CHARGER: yes while any reports yes (R58). The source
recorded is the lowest-numbered station that reports the value (log 18). -/
def State.resolveCharger (s : State) : Option Served :=
  match (s.servers .charger).find? fun (_, v) => v == 1 with
  | some (i, v) => some { value := v, source := some i, rank := .primary }
  | none =>
    match s.firstServer .charger .primary with
    | some x => some x
    | none => Served.ofFallback 0

/-- A primary source, else a fallback. -/
def State.resolveOrFallback (s : State) (q : Quantity) (fallback : Nat) : Option Served :=
  match s.firstServer q .primary with
  | some x => some x
  | none => Served.ofFallback fallback

/-- A primary source, else a secondary one, else unavailable. -/
def State.resolveOrSecondary (s : State) (q secondary : Quantity) : Option Served :=
  match s.firstServer q .primary with
  | some x => some x
  | none => s.firstServer secondary .secondary

/-- The source table worked through for the eight shared quantities (R58, R59). Before the seal the fallback of the
discharge limit is the parameter as SETUP has left it so far, the model's choice: R58 and R123 name the sealed one
alone (log 38). -/
def State.resolved (s : State) : ServedValues :=
  { packVoltage := s.resolveOrSecondary .packVoltage .linkVoltage
    discharge := s.resolveOrFallback .dischargeLimit s.config.fallbackDischarge
    acceptance := s.resolveOrFallback .regenAcceptance 0
    contactor := s.resolveOrFallback .contactorState 0
    speed := s.resolveOrSecondary .driveSpeed .wheelSpeed
    throttle := s.resolveOrFallback .throttle 0
    brake := s.resolveOrFallback .brake 1
    charger := s.resolveCharger }

/-- The value of a served quantity that has a fallback. -/
def servedValue (x : Option Served) : Nat :=
  match x with
  | some v => v.value
  | none => 0

/-! ### Band -/

/-- The band that follows the band held at served speed `v` (R71). Before the seal W may exceed C, and then some speeds
meet two rows: a speed of C or more below W with UNKNOWN or WALK held, one of C or more below W - 5 with MID held, one of
C - 5 or more below W - 5 with FAST held. FAST is taken in each case, the model's choice (log 17). -/
def bandAt (w c : Nat) (held : Band) (v : Nat) : Band :=
  if v < 10 then .walk
  else
    match held with
    | .unknown => if c ≤ v then .fast else if w ≤ v then .mid else .walk
    | .walk => if c ≤ v then .fast else if w ≤ v then .mid else .walk
    | .mid => if c ≤ v then .fast else if w - 5 ≤ v then .mid else .walk
    | .fast => if c - 5 ≤ v then .fast else if w - 5 ≤ v then .mid else .walk

/-- The band is worked out afresh (R70). -/
def State.workBand (s : State) : State :=
  let band :=
    match s.selector.served.speed with
    | none => .unknown
    | some x =>
      if s.selector.speedDisputed then .unknown
      else bandAt s.config.walk s.config.cruise s.selector.band x.value
  s.setSelector { s.selector with band := band }

/-! ### Records of the selector -/

def disputedRaise : Raise := { code := 56, level := 3, fm := 256, fr := 256 }
def speedUnknownRaise : Raise := { code := 57, level := 5, fm := 256, fr := 256 }
def brakeThrottleRaise : Raise := { code := 58, level := 4, fm := 0, fr := 256 }
def chargeInterlockRaise : Raise := { code := 59, level := 6, fm := 0, fr := 0 }

/-- A condition as an event finds it: it begins with a raise and ends with condition-gone. -/
def State.conditionNow (s : State) (held now : Bool) (a : Raise) : State :=
  if now && !held then s.raise a
  else if held && !now then s.conditionGone a.code
  else s

/-- The served vehicle speed is unavailable (R67). -/
def State.speedMissing (s : State) : Bool := s.selector.served.speed.isNone

/-- The served charger quantity reads yes (R69). -/
def State.charging (s : State) : Bool := decide (servedValue s.selector.served.charger = 1)

/-- SPEED-UNKNOWN evaluated at a resolution (R67). -/
def State.checkSpeedUnknown (s : State) : State :=
  let held := s.selector.speedUnknown
  let now := s.speedMissing
  (s.setSelector { s.selector with speedUnknown := now }).conditionNow held now speedUnknownRaise

/-- CHARGE-INTERLOCK evaluated at a resolution (R69). -/
def State.checkCharge (s : State) : State :=
  let held := s.selector.chargeHolds
  let now := s.charging
  (s.setSelector { s.selector with chargeHolds := now }).conditionNow held now chargeInterlockRaise

/-- The served values are recorded, and the band follows a change of the served speed or its source
(R59, R70). -/
def State.recordServed (s : State) (v : ServedValues) : State :=
  let moved := decide (v.speed ≠ s.selector.served.speed)
  let s := s.setSelector { s.selector with served := v }
  if moved then s.workBand else s

/-- The quantities are resolved again and what depends on them follows (R59, R67, R69, R70). -/
def State.resolveQuantities (s : State) : State :=
  match s.station with
  | .hold => s
  | .parked => s
  | .config => s.recordServed s.resolved
  | .join => s.recordServed s.resolved
  | .run => ((s.recordServed s.resolved).checkSpeedUnknown).checkCharge
  | .parking => ((s.recordServed s.resolved).checkSpeedUnknown).checkCharge

/-- At the entry to RUN each of the two conditions that holds is raised (R61). -/
def State.raiseAtEntry (s : State) : State :=
  let s := (s.setSelector { s.selector with speedUnknown := false }).checkSpeedUnknown
  (s.setSelector { s.selector with chargeHolds := false }).checkCharge

/-- At each entry to JOIN the persistence state is reset (R61); the band follows a speed check that ceases to be
disputed (R70). -/
def State.resetPersistence (s : State) : State :=
  let wasDisputed := s.selector.speedDisputed
  let s := s.setSelector { s.selector with
    speedCount := 0, voltageCount := 0, speedDisputed := false, voltageDisputed := false,
    brakeCount := 0 }
  if wasDisputed then s.workBand else s

/-- At the entry to PARKED the conditions of the selector hold no longer (R61); a disputed check stays so until the
next entry to JOIN (log 35). -/
def State.endConditions (s : State) : State :=
  s.setSelector { s.selector with brakeHolds := false, speedUnknown := false, chargeHolds := false }

/-! ### Own values -/

/-- An own value stored by PUBLISH (R56). -/
def storeOwn (q : Quantity) (v : Nat) (l : List OwnValue) : List OwnValue :=
  l.map fun x => if x.quantity = q then { x with value := v, valid := true, fresh := 0 } else x

/-- The freshness count of one own value at an own expiry (R57). -/
def countFresh (x : OwnValue) : OwnValue :=
  if x.valid then
    let n := addSat Config.freshPeriods x.fresh 1
    { x with fresh := n, valid := decide (n < Config.freshPeriods) }
  else x

/-- The count of a valid own value that stands one below its bound, or at it, reaches it (R57, log 6). -/
def expireFresh (q : Quantity) (x : OwnValue) : OwnValue :=
  if x.quantity = q ∧ x.valid = true ∧ Config.freshPeriods ≤ x.fresh + 1 then
    { x with fresh := Config.freshPeriods, valid := false }
  else x

def State.mapOwn (s : State) (f : OwnValue → OwnValue) : State :=
  s.setSelector { s.selector with own := s.selector.own.map f }

/-- What a beacon carries of an own value (R55): its value as it stands with its flag. -/
def State.carried (s : State) (q : Quantity) : Valued :=
  match s.ownValue q with
  | some v => { valid := v.valid, value := v.value }
  | none => { valid := false, value := 0 }

/-- The published quantities of the own beacon (R16, R55). -/
def State.ownPublished (s : State) : Published :=
  match s.start.straps.role with
  | .pack =>
    .pack (s.carried .packVoltage) (s.carried .dischargeLimit) (s.carried .regenAcceptance)
      (s.carried .contactorState)
  | .drive => .drive (s.carried .driveSpeed) (s.carried .linkVoltage)
  | .cockpit => .cockpit (s.carried .wheelSpeed) (s.carried .throttle) (s.carried .brake)
  | .charger => .charger (s.carried .charger)

/-! ### Comparisons of the cross-checks -/

/-- The absolute difference. -/
def distance (a b : Nat) : Nat := max a b - min a b

/-- Two speeds disagree (R63). -/
def speedsDisagree (a b : Nat) : Bool := decide (max 10 (max a b / 16) < distance a b)

/-- Two voltages disagree (R64). -/
def voltagesDisagree (a b : Nat) : Bool := decide (20 + max a b / 32 < distance a b)

/-- Some pair of a list of sources disagrees. -/
def anyPair (f : Nat → Nat → Bool) : List (Station × Nat) → Bool
  | [] => false
  | x :: rest => (rest.any fun y => f x.2 y.2) || anyPair f rest

/-- The sources of the speed check (R63). -/
def State.speedSources (s : State) : List (Station × Nat) :=
  s.servers .driveSpeed ++ (s.servers .wheelSpeed).take 1

/-- The sources of the voltage check (R64): the PACK first, then the DRIVEs; none while the served
contactor state is open or the PACK's voltage does not serve. -/
def State.voltageSources (s : State) : List (Station × Nat) :=
  if servedValue s.selector.served.contactor = 1 then
    match s.servers .packVoltage with
    | p :: _ => p :: s.servers .linkVoltage
    | [] => []
  else []

/-- The speed check disagrees: some compared pair does (R63). -/
def State.speedDisagrees (s : State) : Bool := anyPair speedsDisagree s.speedSources

/-- The voltage check disagrees: the PACK disagrees with some DRIVE (R64). -/
def State.voltageDisagrees (s : State) : Bool :=
  match s.voltageSources with
  | p :: drives => drives.any fun d => voltagesDisagree p.2 d.2
  | [] => false

/-- `x` disagrees with every other source while every pair of the others agrees (R66). -/
def isOutlier (f : Nat → Nat → Bool) (l : List (Station × Nat)) (x : Station × Nat) : Bool :=
  let others := l.filter fun y => y.1 != x.1
  (others.all fun y => f x.2 y.2) && !anyPair f others

/-- The outlier of three or more sources, if there is one (R66). -/
def outlier (f : Nat → Nat → Bool) (l : List (Station × Nat)) : Option Station :=
  if l.length < 3 then none else (l.find? (isOutlier f l)).map Prod.fst

end Sys2Proof.Machine
end

