-- ==== Sys2Proof/Machine/Peers.lean ====
section
/-! DEFINITION. The entries of the peer view table: sequence classes (R35), what a beacon stores (R36), score and
thresholds (R43, R46, R47), the records raised from an entry (R49 to R54), and muting (R136, R137). -/

namespace Sys2Proof.Machine

/-! ### Sequence, storing, score -/

/-- The classes of a sorted beacon (R35); a gap holds k. -/
inductive SeqClass where
  | next | repeated | gap (k : Nat)
  deriving DecidableEq, Repr

/-- The class of a received sequence number (R35). -/
def seqClass (last received : Fin 16) : SeqClass :=
  let k := (received - last).val
  if k = 0 then .repeated else if k = 1 then .next else .gap k

/-- An entry with a beacon's fields stored (R36): the last sequence, the age and the heard mark too. -/
def PeerEntry.store (e : PeerEntry) (b : Beacon) : PeerEntry :=
  { e with
    published := some b.published, period := some b.period, ownLevel := b.ownLevel,
    posture := some b.posture, cl := b.cl, flags := b.flags, claims := b.claims,
    lastSeq := b.sequence, age := 0, heard := true }

/-- The increase of the score for a class (R46). -/
def gapCharge : SeqClass → Nat
  | .gap k => min 48 (6 * (k - 1))
  | _ => 0

/-- The score after a beacon of a class (R46). -/
def scoreAfter (score : Nat) (c : SeqClass) : Nat := addSat 255 score (gapCharge c) - 4

/-- The thresholds of R47. -/
def PeerEntry.thresholds (e : PeerEntry) : PeerEntry :=
  match e.state with
  | .live => if Config.suspectAt ≤ e.score then { e with state := .suspect } else e
  | .suspect => if e.score ≤ Config.liveAt then { e with state := .live } else e
  | _ => e

/-- An entry charged `n` (R27, R43, R66). -/
def PeerEntry.charge (e : PeerEntry) (n : Nat) : PeerEntry :=
  { e with score := addSat 255 e.score n }

/-! ### Records raised from an entry -/

/-- The level of PEER-DOWN by the role in the population record (R50). A down entry has been heard, so its
place holds a role (log 21). -/
def downLevel (role : Option Role) : Level :=
  match role with
  | some .cockpit => 6
  | some .charger => 1
  | _ => 4

def downCode (i : Station) : Nat := 32 + i.val
def postureCode (i : Station) : Nat := 38 + i.val
def mismatchCode (i : Station) : Nat := 44 + i.val

/-- The raise of PEER-DOWN(i) with a cause (R50). -/
def State.downRaise (s : State) (i : Station) (cause : DownCause) : Raise :=
  { code := downCode i, level := downLevel (s.start.population.get i).role, fm := 256, fr := 256,
    param := some { station := i, cause := some cause } }

/-- The level adopted from an entry, if any (R52). -/
def PeerEntry.adopted (e : PeerEntry) : Option Level :=
  if e.state.trusted then
    if e.flags.isolated then some 4
    else if e.ownLevel = 0 then none
    else some (min e.ownLevel 6)
  else none

/-- The raise of PEER-POSTURE(i) at a level (R52). -/
def postureRaise (i : Station) (l : Level) : Raise :=
  { code := postureCode i, level := l, fm := 256, fr := 256,
    param := some { station := i, cause := none } }

/-- CONFIG-MISMATCH holds for an entry at a station of period `p` (R54). -/
def PeerEntry.mismatch (e : PeerEntry) (p : Period) : Bool :=
  e.state.trusted && (match e.period with | some q => decide (q ≠ p) | none => false)

/-- The raise of CONFIG-MISMATCH(i) (R54). -/
def mismatchRaise (i : Station) : Raise :=
  { code := mismatchCode i, level := 4, fm := 256, fr := 256,
    param := some { station := i, cause := none } }

/-- PEER-DOWN(i) after an entry changed from `e` to `e'` (R50, R51). -/
def State.evalDown (s : State) (i : Station) (e e' : PeerEntry) : State :=
  if e'.state.down then
    if e.state.down && decide (e.downCause = e'.downCause) then s else s.raise (s.downRaise i e'.downCause)
  else if e.state.down then s.conditionGone (downCode i)
  else s

/-- PEER-POSTURE(i) at a change of its condition or its adopted level: the table of R53. -/
def State.adoptLevel (s : State) (i : Station) (adopted : Option Level) : State :=
  match s.record (postureCode i), adopted with
  | none, none => s
  | none, some l => s.raise (postureRaise i l)
  | some r, none =>
    match r.life with
    | .holds => s.conditionGone (postureCode i)
    | _ => s
  | some r, some l =>
    if r.level < l then s.replace (postureRaise i l)
    else
      match r.life with
      | .holds => if l < r.level then s.conditionGone (postureCode i) else s
      | _ => if l = r.level then s.raise (postureRaise i l) else s

/-- PEER-POSTURE(i) after an entry changed from `e` to `e'` (R53): where neither the condition nor the adopted
level changed, nothing is done. -/
def State.evalPosture (s : State) (i : Station) (e e' : PeerEntry) : State :=
  if e.adopted = e'.adopted then s else s.adoptLevel i e'.adopted

/-- The condition of PEER-POSTURE(i) is presented while it holds: at an own expiry, and at a beacon or an ALERT
of the peer (R49, R53; log 15). -/
def State.presentPosture (s : State) (i : Station) : State :=
  match (s.peer i).adopted with
  | some l => s.present (postureRaise i l)
  | none => s

/-- CONFIG-MISMATCH(i) after an entry changed from `e` to `e'` (R54). -/
def State.evalMismatch (s : State) (i : Station) (e e' : PeerEntry) : State :=
  s.conditionNow (e.mismatch s.config.period) (e'.mismatch s.config.period) (mismatchRaise i)

/-- A peer leaves the readmit-owed list when its entry leaves LIVE and SUSPECT (R152). -/
def State.leaveOwed (s : State) (i : Station) (e e' : PeerEntry) : State :=
  if e.state.trusted && !e'.state.trusted then
    s.setIsolation { s.isolation with owed := s.isolation.owed.filter fun j => j != i }
  else s

/-- The quorum is compared when an entry comes into LIVE or SUSPECT or leaves them (R141, R144). -/
def State.compareAtTrust (s : State) (e e' : PeerEntry) : State :=
  if e.state.trusted = e'.state.trusted then s else s.compareQuorum

/-- An entry changes: its records are evaluated (R49) in the order PEER-DOWN, PEER-POSTURE, CONFIG-MISMATCH
(log 32), then the quorum is compared where trust changed (R141). That its records come before the comparison, so
PEER-DOWN before CEASED, is an order that no rule gives (log 32). -/
def State.updatePeer (s : State) (i : Station) (e' : PeerEntry) : State :=
  let e := s.peer i
  let s := (s.setPeer i e').leaveOwed i e e'
  (((s.evalDown i e e').evalPosture i e e').evalMismatch i e e').compareAtTrust e e'

/-- An entry changes by a beacon or an ALERT of the peer, which finds a PEER-POSTURE that waits (R53). -/
def State.hearPeer (s : State) (i : Station) (e' : PeerEntry) : State :=
  (s.updatePeer i e').presentPosture i

/-- The conditions of an entry that hold are presented (R49), in the order of log 32. -/
def State.presentPeer (s : State) (i : Station) : State :=
  let e := s.peer i
  let s := if e.state.down then s.present (s.downRaise i e.downCause) else s
  let s := s.presentPosture i
  if e.mismatch s.config.period then s.present (mismatchRaise i) else s

/-! ### Muting -/

/-- The entry that a MUTED request leaves (R137). -/
def PeerEntry.muted (e : PeerEntry) (reason : MuteReason) (hold : Nat) : PeerEntry :=
  { PeerEntry.initial with
    state := .muted, lastSeq := e.lastSeq, flags := e.flags, muteReason := some reason,
    muteHold := some hold, ceasePending := true, downCause := .muted }

/-- A peer is muted (R137). -/
def State.mute (s : State) (i : Station) (reason : MuteReason) : State :=
  s.updatePeer i ((s.peer i).muted reason s.config.muteHold)

/-- A score report (R47): in RUN it is a mute decision (R136). -/
def State.reportScore (s : State) (i : Station) : State :=
  let e := s.peer i
  if s.station = .run ∧ e.state.trusted ∧ Config.muteAt ≤ e.score then s.mute i .score else s

/-- A count report (R48): in RUN it is a mute decision (R136). -/
def State.reportSelfContained (s : State) (i : Station) : State :=
  let e := s.peer i
  if s.station = .run ∧ e.state.trusted ∧ Config.selfContainedAt ≤ e.selfCount then
    s.mute i .selfContained
  else s

/-- An entry whose score has changed: thresholds, records, score report (R47). -/
def State.updateScored (s : State) (i : Station) (e' : PeerEntry) : State :=
  (s.updatePeer i e'.thresholds).reportScore i

/-- The same at a beacon of the peer (R37, R47). The entry's records are evaluated before a score of 192 mutes the peer,
an order that no rule gives (log 32): a beacon that brings a level and the score can leave a PEER-POSTURE that latches. -/
def State.hearScored (s : State) (i : Station) (e' : PeerEntry) : State :=
  (s.hearPeer i e'.thresholds).reportScore i

/-- A cross-check charge (R43, R66). -/
def State.crossCharge (s : State) (i : Station) : State :=
  let e := s.peer i
  if e.state.trusted then s.updateScored i (e.charge 16) else s

end Sys2Proof.Machine
end

