-- ==== Sys2Proof/Machine/Isolation.lean ====
section
/-! DEFINITION. The isolation unit towards its peers: CEASE obligations (R139), the rejoin queue and probation
(R146 to R152), reports of dropped directives. -/

namespace Sys2Proof.Machine

/-! ### Directives -/

/-- A CEASE is given for a muted peer that owes one, when a good frame of it arrives (R139). -/
def State.giveCease (s : State) (i : Station) : State :=
  let e := s.peer i
  if e.state = .muted ∧ e.ceasePending then
    let d := Directive.cease i (e.muteReason.getD .score)
    match directiveOutcome d s.line.directives with
    | .refused => s
    | .queued => (s.giveDirective d).setPeer i { e with ceasePending := false }
    | .already => s.setPeer i { e with ceasePending := false }
  else s

/-- The readmit-owed list is kept in ascending order (R152). -/
def insertStation (i : Station) : List Station → List Station
  | [] => [i]
  | j :: rest => if i < j then i :: j :: rest else if i = j then j :: rest else j :: insertStation i rest

/-- A peer enters the readmit-owed list (R152). -/
def State.owe (s : State) (i : Station) : State :=
  s.setIsolation { s.isolation with owed := insertStation i s.isolation.owed }

/-- A READMIT is given, and stays owed when it is refused (R152). -/
def State.giveReadmit (s : State) (i : Station) : State :=
  match directiveOutcome (.readmit i) s.line.directives with
  | .refused => s.owe i
  | .already => s.setIsolation { s.isolation with owed := s.isolation.owed.filter fun j => j != i }
  | .queued =>
    (s.giveDirective (.readmit i)).setIsolation
      { s.isolation with owed := s.isolation.owed.filter fun j => j != i }

/-- A directive is reported dropped or discarded (R20, R139, R152). -/
def State.directiveLost (s : State) (d : Directive) : State :=
  match d with
  | .cease i _ =>
    if (s.peer i).state = .muted then s.setPeer i { s.peer i with ceasePending := true } else s
  | .readmit i => if (s.peer i).state.trusted then s.owe i else s

/-! ### Rejoin queue and probation -/

/-- A peer enters the rejoin queue at the tail, unless it is there (R146). -/
def State.enqueueRejoin (s : State) (i : Station) : State :=
  if s.isolation.queue.contains i then s
  else s.setIsolation { s.isolation with queue := s.isolation.queue ++ [i] }

/-- The entry at the start of its probation (R147). -/
def PeerEntry.onProbation (e : PeerEntry) : PeerEntry :=
  { e with
    state := .probation, ceasePending := false, muteHold := none,
    muteReason := if e.state = .lost then some .score else e.muteReason,
    age := 0, heard := true, downCause := .probation }

/-- The origin of a probation (R147). -/
def originFrom (st : EntryState) : Origin := if st = .lost then .lost else .muted

/-- The head of the rejoin queue starts its probation when none runs (R146, R147). -/
def State.startProbation (s : State) : State :=
  if s.station.onLine then
    match s.isolation.probation, s.isolation.queue with
    | none, i :: _ =>
      let e := s.peer i
      (s.setIsolation { s.isolation with
        probation := some { station := i, origin := originFrom e.state, clean := 0 } }).updatePeer i
          e.onProbation
    | _, _ => s
  else s

/-- A probation ends: its peer leaves the rejoin queue and the record is removed (R146). -/
def State.endProbation (s : State) (i : Station) : State :=
  s.setIsolation { s.isolation with
    queue := s.isolation.queue.filter fun j => j != i, probation := none }

/-- The probation of peer `i` fails: the peer is muted again (R149). -/
def State.failProbation (s : State) (i : Station) : State :=
  (s.mute i ((s.peer i).muteReason.getD .score)).endProbation i

/-- The probation of peer `i` is abandoned: its entry returns to LOST (R150). -/
def State.abandonProbation (s : State) (i : Station) : State :=
  (s.updatePeer i { s.peer i with state := .lost, muteReason := none, downCause := .lost }).endProbation i

/-- The probation of peer `i` succeeds (R152). -/
def State.passProbation (s : State) (i : Station) : State :=
  ((s.updatePeer i { s.peer i with
      state := .live, score := 48, muteReason := none, selfCount := 0 }).endProbation i).giveReadmit i

/-- The probation record, if peer `i` is the one in probation. -/
def State.probationOf (s : State) (i : Station) : Option Probation :=
  match s.isolation.probation with
  | some p => if p.station = i then some p else none
  | none => none

/-- The highest level among claims other than CEASED, 0 for none (R148). -/
def claimLevel (l : List Claim) : Level :=
  (l.filter fun c => c.code != 3).foldl (fun m c => max m c.level) 0

/-- The probation level of a beacon (R148). -/
def beaconLevel (b : Beacon) : Level :=
  if b.flags.isolated then claimLevel b.claims else b.ownLevel

/-- The probation level of an ALERT for an entry with the given stored ISOLATED flag (R148). -/
def alertLevel (a : Alert) (isolated : Bool) : Level :=
  if isolated then claimLevel [a.claim] else a.ownLevel

end Sys2Proof.Machine
end

