-- ==== Sys2Proof/Machine/Envelope.lean ====
section
/-! DEFINITION. The envelope unit: the posture-band fractions (R124, R125), the targets (R126, R127), falls and rises
(R129, R130), the changed-since-read flag (R131). -/

namespace Sys2Proof.Machine

/-- The posture-band motoring fraction fp (R124). -/
def motoringFraction (p : Posture) (b : Band) : Nat :=
  match p with
  | .normal => 256
  | .trim => match b with | .walk => 256 | .mid => 192 | .fast => 160 | .unknown => 160
  | .limp => match b with | .walk => 160 | .mid => 112 | .fast => 64 | .unknown => 64
  | .crawl => match b with | .walk => 96 | .mid => 0 | .fast => 0 | .unknown => 0
  | .coast => 0
  | .safeStop => 0
  | .isolated => 0

/-- The posture-band regenerative fraction fq (R125). -/
def regenFraction (p : Posture) (b : Band) : Nat :=
  match p with
  | .normal => 256
  | .trim => 256
  | .limp => match b with | .walk => 128 | .mid => 192 | .fast => 192 | .unknown => 128
  | .crawl => match b with | .walk => 64 | .mid => 128 | .fast => 128 | .unknown => 64
  | .coast => match b with | .walk => 64 | .mid => 128 | .fast => 160 | .unknown => 64
  | .safeStop => 0
  | .isolated => 0

/-- The inputs of the envelope unit (R123). -/
structure EnvelopeInputs where
  running : Bool
  nominalMotoring : Nat
  nominalRegen : Nat
  posture : Posture
  fmMin : Nat
  frMin : Nat
  band : Band
  discharge : Nat
  acceptance : Nat
  contactorClosed : Bool
  brakeApplied : Bool
  deriving DecidableEq, Repr

/-- The inputs as they stand (R123, R128). -/
def State.envelopeInputs (s : State) : EnvelopeInputs :=
  { running := decide (s.station = .run)
    nominalMotoring := s.config.nominalMotoring
    nominalRegen := s.config.nominalRegen
    posture := s.posture
    fmMin := s.fmMin
    frMin := s.frMin
    band := s.selector.band
    discharge := servedValue s.selector.served.discharge
    acceptance := servedValue s.selector.served.acceptance
    contactorClosed := decide (servedValue s.selector.served.contactor = 1)
    brakeApplied := decide (servedValue s.selector.served.brake = 1) }

/-- The motoring target (R126); outside RUN it is 0 (R122). -/
def EnvelopeInputs.motoringTarget (x : EnvelopeInputs) : Nat :=
  if !x.running || x.brakeApplied || !x.contactorClosed then 0
  else min (x.nominalMotoring * min (motoringFraction x.posture x.band) x.fmMin / 256) x.discharge

/-- The regenerative target (R127); outside RUN it is 0 (R122). -/
def EnvelopeInputs.regenTarget (x : EnvelopeInputs) : Nat :=
  if !x.running || !x.contactorClosed then 0
  else min (x.nominalRegen * min (regenFraction x.posture x.band) x.frMin / 256) x.acceptance

/-- The rise timer of an output `out` under its new target (R129, R130): stopped at the target, running
below it. -/
def rampTimer (target out : Nat) (timer : Option Nat) : Option Nat :=
  if out < target then
    match timer with
    | some left => some left
    | none => some Config.riseMs
  else none

/-- The unit after a recomputation with targets `tm` and `tr` (R129, R130, R131). -/
def Envelope.retarget (e : Envelope) (tm tr : Nat) : Envelope :=
  let om := min e.om tm
  let outr := min e.outr tr
  { tm := tm, tr := tr, om := om, outr := outr,
    motoringTimer := rampTimer tm om e.motoringTimer,
    regenTimer := rampTimer tr outr e.regenTimer,
    changed := e.changed || decide (om ≠ e.om ∨ outr ≠ e.outr) }

/-- One recomputation (R123). -/
def State.recompute (s : State) : State :=
  s.setEnvelope
    (s.envelope.retarget s.envelopeInputs.motoringTarget s.envelopeInputs.regenTarget)

/-- A handover: a recomputation when an input changed since `s0` (R105, R123). -/
def State.handToEnvelope (s0 s : State) : State :=
  if s0.envelopeInputs = s.envelopeInputs then s else s.recompute

/-- The rise timer of an output after a step that left it at `out` (R130). -/
def nextRise (target out : Nat) : Option Nat := if out = target then none else some Config.riseMs

/-- The motoring rise timer expires (R130, R131). -/
def Envelope.riseMotoring (e : Envelope) (step : Nat) : Envelope :=
  let om := min e.tm (e.om + step)
  { e with om := om, motoringTimer := nextRise e.tm om, changed := e.changed || decide (om ≠ e.om) }

/-- The regenerative rise timer expires (R130, R131). -/
def Envelope.riseRegen (e : Envelope) (step : Nat) : Envelope :=
  let outr := min e.tr (e.outr + step)
  { e with outr := outr, regenTimer := nextRise e.tr outr,
           changed := e.changed || decide (outr ≠ e.outr) }

end Sys2Proof.Machine
end

