-- ==== Sys2Proof/Machine/Control.lean ====
section
/-! DEFINITION. Start control and what one handling ends with: the population check (R9, R10), beacons (R16), the
seal (R7), the entries to JOIN, RUN and PARKED (R8, R165, R168), supervision (R158), the contactor sequence
(R116 to R121), and the handover at the end of a handling (R105, R123, R151). -/

namespace Sys2Proof.Machine

/-! ### Population -/

/-- Places that hold a role (R10). -/
def roleCount (p : Six Place) (r : Role) : Nat :=
  (stations.filter fun i => decide ((p.get i).role = some r)).length

/-- The missing-role condition (R10). -/
def roleMissing (p : Six Place) : Bool := decide (roleCount p .pack = 0 ∨ roleCount p .cockpit = 0)

/-- The role-conflict condition (R10). -/
def roleConflict (p : Six Place) : Bool :=
  decide (2 ≤ roleCount p .pack ∨ 2 ≤ roleCount p .cockpit ∨ 4 ≤ roleCount p .drive)
    || stations.any fun i => decide (0 < (p.get i).clash)

def roleMissingRaise : Raise := { code := 54, level := 6, fm := 0, fr := 128 }
def roleConflictRaise : Raise := { code := 53, level := 7, fm := 0, fr := 0 }

/-- A condition as a run of the population check finds it: raised at its beginning, presented while it
holds, ended when it no longer holds and held before (R10, R76). -/
def State.checkCondition (s : State) (held now : Bool) (a : Raise) : State :=
  if now then s.raiseOrPresent (!held) a
  else if held then s.conditionGone a.code
  else s

/-- One run of the population check (R10): ROLE-MISSING before ROLE-CONFLICT, an order that no rule gives
(log 32). -/
def State.populationCheck (s : State) : State :=
  let missing := roleMissing s.start.population
  let conflict := roleConflict s.start.population
  let missingHeld := s.start.missingHeld
  let conflictHeld := s.start.conflictHeld
  ((s.setStart { s.start with missingHeld := missing, conflictHeld := conflict }).checkCondition
    missingHeld missing roleMissingRaise).checkCondition conflictHeld conflict roleConflictRaise

/-- Within RUN and PARKING the check runs again (R10). -/
def State.recheckPopulation (s : State) : State :=
  if s.station.riding then s.populationCheck else s

/-- At an own expiry each condition that holds is presented (R10), in the order of the check (log 32). -/
def State.presentPopulation (s : State) : State :=
  let s := if s.start.missingHeld then s.present roleMissingRaise else s
  if s.start.conflictHeld then s.present roleConflictRaise else s

def State.setPlace (s : State) (i : Station) (p : Place) : State :=
  s.setStart { s.start with population := s.start.population.set i p }

/-- The clash age of the own place is set to 16, and the check runs again (R9, R10). -/
def State.ownClash (s : State) : State :=
  (s.setPlace s.own { s.start.population.get s.own with clash := Config.clashPeriods }).recheckPopulation

/-- The population record takes the role of a valid beacon (R9), and the check runs again when the place
is first heard or its clash age set (R10). -/
def State.hearRole (s : State) (i : Station) (r : Role) : State :=
  match (s.start.population.get i).role with
  | none => (s.setPlace i { s.start.population.get i with role := some r }).recheckPopulation
  | some old =>
    if old = r then s
    else (s.setPlace i { role := some r, clash := Config.clashPeriods }).recheckPopulation

/-! ### Beacons -/

/-- A beacon as it is built now (R16); its sequence number is written at its first attempt (R17). -/
def State.buildBeacon (s : State) (joining parking : Bool) : Beacon :=
  { sender := s.own, period := s.config.period, sequence := 0,
    flags :=
      { joining := joining
        rejoin := decide (s.isolation.own = .rejoining)
        isolated := decide (s.isolation.own ≠ .active)
        parking := parking }
    ownLevel := s.ownLevel, posture := s.posture, cl := s.engine.cl, claims := s.claims,
    published := s.ownPublished }

/-! ### Supervision -/

/-- SUPERVISION as the timer raises it (R87). -/
def supervisionRaise (strict : Bool) : Raise :=
  if strict then { code := 2, level := 7, fm := 0, fr := 0 }
  else { code := 2, level := 6, fm := 0, fr := 128 }

def State.raiseSupervision (s : State) : State := s.raise (supervisionRaise s.supervision.strict)

/-- The timer starts: the count takes the sealed reload (R158). -/
def State.startSupervision (s : State) : State :=
  s.setSupervision { s.supervision with running := true, count := s.config.reload }

/-- A refresh error (R159). -/
def State.refreshError (s : State) : State :=
  let n := s.supervision.errors + 1
  let s := s.setSupervision
    { s.supervision with firstToken := false, errors := if 3 ≤ n then 0 else n }
  if 3 ≤ n then s.raiseSupervision else s

/-! ### Trips -/

/-- HARD-TRIP for an arrival at input `n` (R86). -/
def hardTripRaise (n : TripInput) : Raise := { code := 1, level := 7, fm := 0, fr := 0, input := some n }

/-- Input `n` is enabled by the sealed trip enables (R86). -/
def State.tripEnabled (s : State) (n : TripInput) : Bool := s.config.enables.getLsbD n.val

/-- Input `n` is asserted. -/
def State.tripLevel (s : State) (n : TripInput) : Bool := s.trips.getLsbD n.val

/-- An enabled input asserted at the seal is taken as an arrival (R7). -/
def State.tripAtSeal (s : State) (n : TripInput) : State :=
  if s.tripEnabled n && s.tripLevel n then s.raise (hardTripRaise n) else s

/-! ### Station states -/

/-- The station enters JOIN (R7, R8, R34, R61): discovery from 0, the beacon timer started, the heard
marks cleared, the selector's persistence reset. -/
def State.enterJoin (s : State) : State :=
  ((s.setStart { s.start with
      station := .join, discovery := 0, beaconTimer := some (periodMs s.config.period) }).setPeers
    (s.peers.map fun e => { e with heard := false })).resetPersistence

/-- The seal (R7). It works no band out, since R70 names the moments and the seal is none of them: a band MID held when W
is set to C stays until the next of those moments, though R71 says that the band then has no MID. That is the model's
choice (log 40). -/
def State.seal (s : State) : State :=
  let s := s.setConfig
    { s.config with sealed := true, walk := min s.config.walk s.config.cruise }
  let s := s.setSupervision { s.supervision with strict := s.config.strict }
  let s := (((s.tripAtSeal 0).tripAtSeal 1).tripAtSeal 2).tripAtSeal 3
  (s.setStart { s.start with window := 0 }).enterJoin

/-- The timer at an entry to RUN from JOIN: started in mode AUTO, unless it runs already (R158). -/
def State.startAtEntry (s : State) : State :=
  match s.config.startMode with
  | .auto => if s.supervision.running then s else s.startSupervision
  | .onFirstRefresh => s

/-- The station enters RUN from JOIN (R8, R10, R61, R141, R158): the population check, then the selector's two
conditions, then the quorum, then supervision (log 7). The contactor sequence and the envelope follow at the
end of the handling. -/
def State.enterRun (s : State) : State :=
  (s.setStart { s.start with
    station := .run, everRun := true }).populationCheck.raiseAtEntry.compareQuorum.startAtEntry

/-- The directives of the queue are discarded and reported (R20). -/
def State.discardDirectives (s : State) : State :=
  let lost := s.line.directives
  lost.foldl (fun s q => s.directiveLost q.frame) (s.setLine { s.line with directives := [] })

/-- The station enters PARKED (R61, R161, R165). The supervision count is kept as it stood when the timer stops, a value
that no rule gives (log 36). -/
def State.enterParked (s : State) : State :=
  let s := (s.setStart { s.start with station := .parked, beaconTimer := none }).endConditions
  let s := (s.setLine { s.line with alerts := [] }).discardDirectives
  let s := s.setEngine { s.engine with contactor := .released, releaseCount := 0 }
  let s :=
    if s.supervision.strict then s
    else s.setSupervision { s.supervision with running := false, firstToken := false }
  s.respond (Response.plain parkEnterCode .done)

/-- A local wake: a WAKE is given to the wake slot and the station enters JOIN (R168). -/
def State.wakeLocally (s : State) : State := s.giveWake.enterJoin

/-! ### Contactor sequence -/

/-- The drive condition (R118). -/
def State.driveCondition (s : State) : Bool :=
  stations.all fun i =>
    let e := s.peer i
    !(e.state.trusted && decide (e.role = some .drive))
      || decide (e.posture = some .coast ∨ e.posture = some .safeStop ∨ e.posture = some .isolated)

def State.setContactor (s : State) (c : Contactor) (n : Nat) : State :=
  s.setEngine { s.engine with contactor := c, releaseCount := n }

/-- The contactor sequence takes a CL of 7 (R118, R119). -/
def State.contactorAtSeven (s : State) : State :=
  match s.engine.contactor with
  | .held => if s.driveCondition then s.setContactor .released 0 else s.setContactor .releasing 0
  | .releasing => if s.driveCondition then s.setContactor .released s.engine.releaseCount else s
  | .released => s

/-- The contactor sequence takes a CL below 7 (R121). No rule gives the count after RELEASED, and it becomes 0
(log 33). -/
def State.contactorBelowSeven (s : State) : State :=
  match s.engine.contactor with
  | .held => s
  | .releasing => s.setContactor .held 0
  | .released => s.setContactor .held 0

/-- The contactor sequence is placed at an entry to RUN from JOIN (R117). -/
def State.placeContactor (s : State) : State :=
  if s.engine.cl = 7 then s.setContactor .released 0 else s.setContactor .held 0

/-- A handling that began in `s0` changed what the contactor sequence is handed or evaluates, or left JOIN
(R117 to R119). -/
def State.contactorMoved (s0 s : State) : Bool :=
  decide (s0.engine.cl ≠ s.engine.cl ∨ s0.station = .join ∨ s0.driveCondition ≠ s.driveCondition)

/-- The contactor sequence at the end of a handling that began in `s0` (R116 to R121). -/
def State.handToContactor (s0 s : State) : State :=
  if s.start.straps.role = .pack ∧ s.station.riding ∧ s0.contactorMoved s then
    if s0.station = .join then s.placeContactor
    else if s.engine.cl = 7 then s.contactorAtSeven
    else s.contactorBelowSeven
  else s

/-! ### End of a handling -/

/-- The suspension flag follows a CL that the handling changed (R151). -/
def State.followSuspension (s0 s : State) : State :=
  if s0.engine.cl = s.engine.cl then s
  else s.setIsolation { s.isolation with suspended := decide (6 ≤ s.engine.cl) }

/-- The handover at the end of a handling that began in `s0` (R105, log 8): the contactor sequence, the
suspension flag, the envelope, the pins. -/
def State.handOver (s0 s : State) : State :=
  (s0.handToEnvelope (s0.followSuspension (s0.handToContactor s))).drivePins

/-- Sources that changed are resolved again (R59). -/
def State.refreshServed (s : State) : State :=
  if s.resolved = s.selector.served then s else s.resolveQuantities

/-- An abandoned park is an entry to RUN: the population check runs and the quorum is compared (R10, R133, R141;
log 25). -/
def State.checkAfterPark (s0 s : State) : State :=
  if s0.station = .parking ∧ s.station = .run then s.populationCheck.compareQuorum else s

/-- The end of a handling that began in `s0`, in the order of log 7: the served quantities, a probation that starts
(that of the successor of one that failed too), the checks after an abandoned park, and the handover. -/
def State.finish (s0 s : State) : State :=
  let t := s.refreshServed.startProbation
  s0.handOver (s0.checkAfterPark t)

end Sys2Proof.Machine
end

