-- ==== Sys2Proof/Machine/Formats.lean ====
section
/-! DEFINITION. What the part clocks out: the bytes of a response (R171), its status payloads (R154, R171) and the
payloads of the reads, packed by R172 with the codes of R169; and the frame on the line as bits. A view field
that holds no value is packed as 0 (R171; log 18). -/

namespace Sys2Proof.Machine

/-! ### Packing -/

/-- Fields of given widths placed one after another, the first most significant. -/
def packNat (fields : List (Nat × Nat)) : Nat :=
  fields.foldl (fun acc f => acc * 2 ^ f.1 + f.2 % 2 ^ f.1) 0

/-- The sum of the widths. -/
def packWidth (fields : List (Nat × Nat)) : Nat := fields.foldl (fun acc f => acc + f.1) 0

/-- A payload of 48 bits: the fields from the most significant bit downward, the rest 0 (R172). -/
def pack (fields : List (Nat × Nat)) : BitVec 48 :=
  BitVec.ofNat 48 (packNat fields * 2 ^ (48 - packWidth fields))

/-- A flag of one bit. -/
def flagField (b : Bool) : Nat × Nat := (1, b.toNat)

/-! ### Responses -/

/-- The outcome codes (R171). -/
def ReqOutcome.bits : ReqOutcome → BitVec 2
  | .done => 0 | .doneWithStatus => 1 | .busy => 2 | .unavailable => 3

/-- The eight bytes of a response, byte 0 most significant (R171). -/
def Response.bytes (r : Response) : BitVec 64 :=
  let data : BitVec 56 := r.outcome.bits ++ (r.code ++ r.payload)
  data ++ checkByte data

/-- The empty response marker (R171). -/
def emptyMarker : BitVec 64 := Response.bytes (Response.plain 0 .done)

/-- The oldest response, or the empty response marker, is clocked out and leaves the queue (R154). -/
def State.clockOut (s : State) : State :=
  match s.link.responses with
  | [] => s.setLink { s.link with out := some emptyMarker }
  | r :: rest => s.setLink { s.link with responses := rest, out := some r.bytes }

/-- The status set of a response, byte 1 (R171). -/
structure StatusSet where
  clamped : Bool := false
  levelKept : Bool := false
  folded : Bool := false
  boundaryAdjusted : Bool := false
  refreshError : Bool := false
  deriving DecidableEq, Repr

def StatusSet.bits (t : StatusSet) : Nat :=
  t.clamped.toNat + 2 * t.levelKept.toNat + 4 * t.folded.toNat + 8 * t.boundaryAdjusted.toNat
    + 16 * t.refreshError.toNat

/-- A response with a status set and a value of two bytes (R154, R171). -/
def Response.status (code : BitVec 6) (t : StatusSet) (value : Nat) : Response :=
  if t.bits = 0 then Response.plain code .done
  else { code := code, outcome := .doneWithStatus, payload := pack [(8, t.bits), (16, value)] }

/-- A response with a value of one byte, byte 2 (R171). -/
def Response.statusByte (code : BitVec 6) (t : StatusSet) (value : Nat) : Response :=
  Response.status code t (value * 256)

/-- A response answered DONE with the payload of a read. -/
def Response.read (code : BitVec 6) (payload : BitVec 48) : Response :=
  { code := code, outcome := .done, payload := payload }

/-! ### Codes (R169) -/

def bandBits : Band → Nat
  | .walk => 0 | .mid => 1 | .fast => 2 | .unknown => 3

def entryStateBits : EntryState → Nat
  | .absent => 0 | .live => 1 | .suspect => 2 | .lost => 3 | .parked => 4 | .muted => 5
  | .probation => 6

def muteReasonBits : Option MuteReason → Nat
  | none => 0 | some .score => 1 | some .selfContained => 2

def originBits : RecordOrigin → Nat
  | .trip => 0 | .supervision => 1 | .isolation => 2 | .report => 3 | .synthetic => 4 | .folding => 5

/-- PENDING, TAKEN, DWELL or LATCHED of a record (R73), coded. -/
def lifeBits (r : Record) : Nat :=
  match r.life with
  | .holds => if r.taken then 1 else 0
  | .dwell _ => 2
  | .latched => 3

def causeBits : DownCause → Nat
  | .lost => 0 | .restarted => 1 | .muted => 2 | .probation => 3

def isolationBits : IsolationState → Nat
  | .active => 0 | .isolated => 1 | .rejoining => 2

def rankBits : Rank → Nat
  | .primary => 0 | .secondary => 1 | .fallback => 2

def roleField (r : Option Role) : Nat × Nat := (3, match r with | some x => x.bits | none => 7)
def periodField (p : Option Period) : Nat × Nat := (2, match p with | some x => x.bits | none => 3)
def postureField (p : Option Posture) : Nat × Nat := (3, match p with | some x => x.bits | none => 7)

def flagsFields (f : Flags) : List (Nat × Nat) :=
  [flagField f.joining, flagField f.rejoin, flagField f.isolated, flagField f.parking]

/-! ### Reads (R172) -/

/-- READ-ENVELOPE (R132). -/
def State.envelopePayload (s : State) : BitVec 48 :=
  pack [(10, s.envelope.tm), (10, s.envelope.tr), (10, s.envelope.om), (10, s.envelope.outr),
    (2, bandBits s.selector.band), (3, s.posture.bits)]

/-- QUERY part 0. -/
def recordPart0 (r : Record) : BitVec 48 :=
  pack [(6, r.code), (3, originBits (originOf r.code)), (3, r.level.val), (2, lifeBits r),
    flagField r.taken, (9, r.fm), (9, r.fr),
    (3, match r.life with | .dwell n => n | _ => 0), (8, r.count)]

/-- The optional field of a record (R73, R172): present mark and sixteen bits. A synthetic parameter
stands in the upper bits, its station first (log 18). -/
def optionalField (r : Record) : List (Nat × Nat) :=
  match r.measured, r.detect, r.folded, r.param with
  | some m, _, _, _ => [flagField true, (16, m.toNat)]
  | none, some d, _, _ => [flagField true, (16, d.toNat)]
  | none, none, some n, _ => [flagField true, (16, n)]
  | none, none, none, some p =>
    [flagField true, (3, p.station.val), (2, match p.cause with | some c => causeBits c | none => 0),
      (11, 0)]
  | none, none, none, none => [flagField false, (16, 0)]

/-- QUERY part 1. -/
def recordPart1 (r : Record) : BitVec 48 := pack ((16, r.firstSeen.toNat) :: optionalField r)

/-- A frame of the stack in READ-STACK; a position beyond the count is all 0. -/
def frameFields (f : Option StackFrame) : List (Nat × Nat) :=
  match f with
  | some x => [(3, x.saved.val), (6, x.code), (3, x.level.val), flagField x.spent]
  | none => [(13, 0)]

/-- READ-STACK by part, frames counted from the bottom; none for a part beyond 3 (R108). -/
def State.stackPayload (s : State) (part : Nat) : Option (BitVec 48) :=
  let frames := s.engine.stack.reverse
  match part with
  | 0 =>
    some (pack [(3, s.engine.cl.val), (3, s.ownLevel.val), (3, s.posture.bits), (3, frames.length),
      (9, s.fmMin), (9, s.frMin)])
  | 1 => some (pack (frameFields frames[0]? ++ frameFields frames[1]? ++ frameFields frames[2]?))
  | 2 => some (pack (frameFields frames[3]? ++ frameFields frames[4]? ++ frameFields frames[5]?))
  | 3 => some (pack (frameFields frames[6]?))
  | _ => none

def claimFields (c : Option Claim) : List (Nat × Nat) :=
  match c with
  | some x => [(6, x.code), (3, x.level.val)]
  | none => [(9, 0)]

def valuedFields (q : Quantity) (v : Valued) : List (Nat × Nat) :=
  [flagField v.valid, (q.width, v.value)]

/-- Published quantities as in a beacon of the stored role. -/
def publishedFields : Published → List (Nat × Nat)
  | .pack v d r c =>
    valuedFields .packVoltage v ++ valuedFields .dischargeLimit d ++ valuedFields .regenAcceptance r
      ++ valuedFields .contactorState c
  | .drive v l => valuedFields .driveSpeed v ++ valuedFields .linkVoltage l
  | .cockpit w t b =>
    valuedFields .wheelSpeed w ++ valuedFields .throttle t ++ valuedFields .brake b
  | .charger c => valuedFields .charger c

/-- The origin of a probation in the peer view: none 0, MUTED 1, LOST 2. -/
def probationOriginBits : Option Probation → Nat
  | none => 0
  | some p => match p.origin with | .muted => 1 | .lost => 2

/-- READ-VIEW of a peer by part; none for a part beyond 3 (R157). -/
def State.peerPayload (s : State) (i : Station) (part : Nat) : Option (BitVec 48) :=
  let e := s.peer i
  match part with
  | 0 =>
    some (pack ([(3, entryStateBits e.state), roleField e.role, (4, e.lastSeq.val), flagField e.heard,
      (4, e.age), (8, e.score), periodField e.period, (3, e.ownLevel.val), postureField e.posture,
      (3, e.cl.val)] ++ flagsFields e.flags
      ++ [flagField e.ceasePending, (2, muteReasonBits e.muteReason), (3, e.claims.length)]))
  | 1 =>
    some (pack [(8, e.selfCount), (8, e.muteHold.getD 0), (8, e.frames),
      (4, match s.probationOf i with | some p => p.clean | none => 0),
      (2, probationOriginBits (s.probationOf i))])
  | 2 =>
    some (pack (claimFields e.claims[0]? ++ claimFields e.claims[1]? ++ claimFields e.claims[2]?
      ++ claimFields e.claims[3]?))
  | 3 => some (match e.published with | some p => pack (publishedFields p) | none => 0)
  | _ => none

/-- A served quantity: unavailable mark, value, source station, rank. -/
def servedFields (x : Option Served) : List (Nat × Nat) :=
  match x with
  | some v =>
    [flagField false, (11, v.value), (3, match v.source with | some i => i.val | none => 0),
      (2, rankBits v.rank)]
  | none => [flagField true, (16, 0)]

/-- An own value: valid flag, value, freshness; all 0 where the role has no further value. -/
def ownValueFields (x : Option OwnValue) : List (Nat × Nat) :=
  match x with
  | some v => [flagField v.valid, (11, v.value), (3, v.fresh)]
  | none => [(15, 0)]

/-- Five places of a list, each packed by `f`, unused places 0. -/
def fivePlaces {α : Type} (f : Option α → List (Nat × Nat)) (l : List α) : List (Nat × Nat) :=
  f l[0]? ++ f l[1]? ++ f l[2]? ++ f l[3]? ++ f l[4]?

def stationFields (x : Option Station) : List (Nat × Nat) :=
  [(3, match x with | some i => i.val | none => 0)]

def ceasePlaceFields (x : Option CeasePlace) : List (Nat × Nat) :=
  match x with
  | some p => [(3, p.sender.val), (4, p.age), flagField p.reason.bit]
  | none => [(8, 0)]

def readmitPlaceFields (x : Option ReadmitPlace) : List (Nat × Nat) :=
  match x with
  | some p => [(3, p.sender.val), (4, p.age)]
  | none => [(7, 0)]

/-- The probation record in the own view: present, station, origin (MUTED 0, LOST 1), clean count. -/
def probationFields (x : Option Probation) : List (Nat × Nat) :=
  match x with
  | some p =>
    [flagField true, (3, p.station.val), (1, match p.origin with | .muted => 0 | .lost => 1), (4, p.clean)]
  | none => [(9, 0)]

/-- A set of stations as six bits, bit n for station n. -/
def stationSet (l : List Station) : Nat := l.foldl (fun n i => n ||| 2 ^ i.val) 0

/-- The isolation unit's part of the own view (part 6). -/
def State.isolationPayload (s : State) : BitVec 48 :=
  let u := s.isolation
  pack ([(2, isolationBits u.own), flagField u.rejoinTimer.isSome, (7, u.rejoinTimer.getD 0),
      flagField u.suspended, flagField s.selector.speedDisputed, flagField s.selector.voltageDisputed,
      (3, u.queue.length)]
    ++ fivePlaces stationFields u.queue ++ probationFields u.probation ++ [(6, stationSet u.owed)])

/-- READ-VIEW of the own number by part; none for a part beyond 8 (R60, R157). The places of the cease and readmit
records stand in parts 7 and 8 in order of entry (log 19). -/
def State.ownPayload (s : State) (part : Nat) : Option (BitVec 48) :=
  let v := s.selector.served
  let o := s.selector.own
  match part with
  | 0 => some (pack (servedFields v.packVoltage ++ servedFields v.discharge))
  | 1 => some (pack (servedFields v.acceptance ++ servedFields v.contactor))
  | 2 => some (pack (servedFields v.speed ++ servedFields v.throttle))
  | 3 => some (pack (servedFields v.brake ++ servedFields v.charger))
  | 4 => some (pack (ownValueFields o[0]? ++ ownValueFields o[1]? ++ ownValueFields o[2]?))
  | 5 => some (pack (ownValueFields o[3]? ++ ownValueFields o[4]? ++ ownValueFields o[5]?))
  | 6 => some s.isolationPayload
  | 7 => some (pack ((3, s.isolation.cease.length) :: fivePlaces ceasePlaceFields s.isolation.cease))
  | 8 =>
    some (pack ((3, s.isolation.readmit.length) :: fivePlaces readmitPlaceFields s.isolation.readmit))
  | _ => none

/-- READ-CAUSE: POWER-ON, PIN and RESTART in bits 0, 1 and 2 of byte 1 (R171). -/
def causePayload (c : Cause) : BitVec 48 :=
  pack [(8, c.powerOn.toNat + 2 * c.pin.toNat + 4 * c.restart.toNat)]

/-! ### The frame on the line -/

/-- A directive as its frame (R18). -/
def Directive.frame (own : Station) : Directive → Frame
  | .cease t r => .cease { sender := own, target := t, reason := r }
  | .readmit t => .readmit { sender := own, target := t }

/-- The frame that is being sent: the head of the queue whose attempt is on the line (R22). -/
def State.sending (s : State) : Option Frame :=
  match s.line.attempt with
  | none => none
  | some a =>
    match a.queue with
    | .alert => s.line.alerts.head?.map fun q => .alert q.frame
    | .directive => s.line.directives.head?.map fun q => q.frame.frame s.own
    | .beacon => s.line.beacon.map fun q => .beacon q.frame.beacon
    | .wake => s.line.wake.map fun q => .wake q.frame

/-- Its bits as they stand on the line, bit insertion included (R14, R170). -/
def State.sendingBits (s : State) : Option (List Bool) := s.sending.map Frame.wire

end Sys2Proof.Machine
end

