-- ==== Sys2Proof/Machine/Requests.lean ====
section
/-! DEFINITION. The module link: what is common to all requests (R153 to R156, R159, R162, R163), and the meaning of
each request and of the transactions that carry none. -/

namespace Sys2Proof.Machine

/-! ### What is common -/

/-- The requests, and the request that a failed check or an unassigned code stands for (R153, R171). -/
inductive Request where
  | setup | seal | publish | report | withdraw | clear | query | readView | readEnvelope | readStack
  | readCause | clearCause | refresh | parkArm | parkEnter | wake | rejoin | restart | bad
  deriving DecidableEq, Repr

/-- The request codes (R171). -/
def Request.code : Request → BitVec 6
  | .setup => 1 | .seal => 2 | .publish => 3 | .report => 4 | .withdraw => 5 | .clear => 6
  | .query => 7 | .readView => 8 | .readEnvelope => 9 | .readStack => 10 | .readCause => 11
  | .clearCause => 12 | .refresh => 13 | .parkArm => 14 | .parkEnter => 15 | .wake => 16
  | .rejoin => 17 | .restart => 18 | .bad => 63

/-- The states in which a request is taken (R155, R163, R164, R167). PARK-ENTER judges its state itself
(R164). -/
def Request.takenIn (q : Request) (st : StationState) : Bool :=
  match q with
  | .setup | .seal => decide (st = .config)
  | .publish => decide (st = .config ∨ st = .join ∨ st = .run)
  | .report | .withdraw | .clear | .refresh | .rejoin => decide (st = .join ∨ st = .run)
  | .query | .readView | .readEnvelope | .readStack => decide (st = .join ∨ st = .run ∨ st = .parked)
  | .readCause | .parkEnter => true
  | .clearCause => decide (st = .config ∨ st = .join ∨ st = .run ∨ st = .parked)
  | .restart => decide (st = .config ∨ st = .join ∨ st = .run)
  | .parkArm => decide (st = .run)
  | .wake => decide (st = .parked)
  | .bad => false

/-- A request that is not a REFRESH taken in a state that takes it is a refresh error while the first-token
flag is set (R159, R160). -/
def State.tokenRule (s : State) (q : Request) : State :=
  if s.supervision.firstToken && !(decide (q = .refresh) && q.takenIn s.station) then s.refreshError else s

/-- A request other than RESTART returns the restart acceptor to IDLE (R162). -/
def State.disarmRestart (s : State) (q : Request) : State :=
  if q = .restart then s else s.setLink { s.link with restartArmed := false }

/-- The park acceptor returns to IDLE (R163). -/
def State.disarmPark (s : State) : State := s.setStart { s.start with parkArmed := false }

/-- A request other than PARK-ENTER and a PARK-ARM taken in RUN returns the park acceptor to IDLE (R163). -/
def State.parkRule (s : State) (q : Request) : State :=
  if q = .parkEnter ∨ q = .parkArm ∧ s.station = .run then s else s.disarmPark

/-- What every request taken does before its own effect (log 16). -/
def State.takeUp (s : State) (q : Request) : State := ((s.tokenRule q).disarmRestart q).parkRule q

/-- What a request's own rule leaves: the state, and its response unless it is in flight. -/
abbrev Answer := State × Option Response

/-- A request answered with an outcome and nothing else. -/
def State.answer (s : State) (q : Request) (o : ReqOutcome) : Answer := (s, some (Response.plain q.code o))

def State.unavailable (s : State) (q : Request) : Answer := s.answer q .unavailable

/-- The response of an answer joins the response queue (R154). -/
def deliver (a : Answer) : State :=
  match a.2 with
  | some r => a.1.respond r
  | none => a.1

/-- A complete transaction that carries request `q` (R153 to R156): a response is clocked out; while
PARK-ENTER is in flight the request is answered BUSY and changes nothing; in a state that does not take it
it is answered UNAVAILABLE; otherwise `effect` is its rule. -/
def State.takeRequest (s : State) (q : Request) (effect : State → Answer) : State :=
  if s.station = .parking then s.clockOut.respond (Response.plain q.code .busy)
  else
    let t := s.clockOut.takeUp q
    s.handOver (deliver (if q.takenIn t.station then effect t else t.unavailable q))

/-! ### Transactions without a request -/

/-- INCOMPLETE_TRANSACTION (R153): discarded; it takes no request and removes no response. -/
def execIncompleteTransaction (_clocks : Nat) (s : State) : Host.Outcome State Fault Refusal := .next s

/-- EMPTY_REQUEST (R153, R154): a response is clocked out and nothing else changes. -/
def execEmptyRequest (s : State) : Host.Outcome State Fault Refusal := .next s.clockOut

/-- BAD_REQUEST (R153, R171): answered UNAVAILABLE under code 63; it counts for the token rules and the
acceptors. -/
def execBadRequest (_cause : BadCause) (s : State) : Host.Outcome State Fault Refusal :=
  .next (s.takeRequest .bad fun t => t.unavailable .bad)

/-! ### Configuration and quantities -/

/-- SETUP by its rule (R4). A changed boundary works no band out (R70; log 40). -/
def State.setupRule (s : State) (id : BitVec 8) (value : BitVec 16) : Answer :=
  match clampParameter id.toNat value.toNat with
  | none => s.unavailable .setup
  | some held =>
    ((s.setConfig (storeParameter s.config id.toNat held)).refreshServed,
      some (Response.status Request.setup.code { clamped := decide (held ≠ value.toNat) } held))

/-- SETUP (R4). -/
def execSetup (id : BitVec 8) (value : BitVec 16) (s : State) : Host.Outcome State Fault Refusal :=
  .next (s.takeRequest .setup fun t => t.setupRule id value)

/-- SEAL by its rule (R6). -/
def State.sealRule (s : State) : Answer :=
  let adjusted := decide (s.config.cruise < s.config.walk)
  let t := s.seal
  (t, some (Response.status Request.seal.code { boundaryAdjusted := adjusted } t.config.walk))

/-- SEAL (R6, R7). -/
def execSeal (s : State) : Host.Outcome State Fault Refusal := .next (s.takeRequest .seal State.sealRule)

/-- The quantity of an identifier, if the station's role publishes it (R56). -/
def State.publishable (s : State) (id : Nat) : Option Quantity :=
  match quantityOf id with
  | some q => if s.start.straps.role.quantities.contains q then some q else none
  | none => none

/-- PUBLISH by its rule (R56). -/
def State.publishRule (s : State) (id : BitVec 8) (value : BitVec 16) : Answer :=
  match s.publishable id.toNat with
  | none => s.unavailable .publish
  | some q =>
    let held := clampPublished q value.toNat
    ((s.setSelector { s.selector with own := storeOwn q held s.selector.own }).refreshServed,
      some (Response.status Request.publish.code { clamped := decide (held ≠ value.toNat) } held))

/-- PUBLISH (R56). -/
def execPublish (id : BitVec 8) (value : BitVec 16) (s : State) : Host.Outcome State Fault Refusal :=
  .next (s.takeRequest .publish fun t => t.publishRule id value)

/-! ### Fault table -/

/-- A code of the REPORT family (R78, R79). -/
def isReportCode (code : Nat) : Bool := decide (8 ≤ code ∧ code ≤ 23)

/-- The level a REPORT finds held by its code, when it differs from the level asked for (R78). -/
def State.levelKept (s : State) (code : Nat) (l : Level) : Option Level :=
  match s.record code with
  | some r => if r.level = l then none else some r.level
  | none => none

/-- The raise of a REPORT, its operands brought into range (R78). -/
def reportRaise (code : Nat) (level : BitVec 4) (fm fr : BitVec 9) (measured : Option (BitVec 16)) : Raise :=
  { code := code, level := clampLevel level, fm := clampFraction fm, fr := clampFraction fr,
    measured := measured }

/-- The statuses of a REPORT (R78). -/
def State.reportStatus (s : State) (code : Nat) (level : BitVec 4) (fm fr : BitVec 9) : StatusSet :=
  { clamped := reportClamped level fm fr
    levelKept := (s.levelKept code (clampLevel level)).isSome
    folded := (s.record code).isNone && s.generalFull }

/-- REPORT by its rule (R78). -/
def State.reportRule (s : State) (code : BitVec 8) (level : BitVec 4) (fm fr : BitVec 9)
    (measured : Option (BitVec 16)) : Answer :=
  if isReportCode code.toNat then
    (s.raise (reportRaise code.toNat level fm fr measured),
      some (Response.statusByte Request.report.code (s.reportStatus code.toNat level fm fr)
        ((s.levelKept code.toNat (clampLevel level)).getD 0).val))
  else s.unavailable .report

/-- REPORT (R78). -/
def execReport (code : BitVec 8) (level : BitVec 4) (fm fr : BitVec 9) (measured : Option (BitVec 16))
    (s : State) : Host.Outcome State Fault Refusal :=
  .next (s.takeRequest .report fun t => t.reportRule code level fm fr measured)

/-- WITHDRAW by its rule (R79). -/
def State.withdrawRule (s : State) (code : BitVec 8) : Answer :=
  if isReportCode code.toNat then
    match s.record code.toNat with
    | some r =>
      match r.life with
      | .holds => (s.conditionGone code.toNat).answer .withdraw .done
      | _ => s.unavailable .withdraw
    | none => s.unavailable .withdraw
  else s.unavailable .withdraw

/-- WITHDRAW (R79). -/
def execWithdraw (code : BitVec 8) (s : State) : Host.Outcome State Fault Refusal :=
  .next (s.takeRequest .withdraw fun t => t.withdrawRule code)

/-- A LATCHED record that CLEAR leaves for now: the record that brought CL to 7 while the contactor sequence
is RELEASING, and OVERFLOW while the general slots are full (R83, R90). -/
def State.clearHeld (s : State) (code : Nat) : Bool :=
  (decide (s.engine.contactor = .releasing) && s.broughtToSeven code)
    || (decide (code = 4) && s.generalFull)

/-- CLEAR by its rule (R83). -/
def State.clearRule (s : State) (code : BitVec 8) : Answer :=
  match s.record code.toNat with
  | none => s.unavailable .clear
  | some r =>
    match r.life with
    | .latched =>
      if s.clearHeld code.toNat then s.answer .clear .busy
      else (s.removeRecord code.toNat).answer .clear .done
    | _ => s.answer .clear .busy

/-- CLEAR (R83). -/
def execClear (code : BitVec 8) (s : State) : Host.Outcome State Fault Refusal :=
  .next (s.takeRequest .clear fun t => t.clearRule code)

/-- The unread record of the highest level, and among equals of the lowest code (R84). -/
def State.highestUnread (s : State) : Option Record :=
  (s.engine.records.filter fun r => r.unread).foldl betterWaiting none

/-- The unread mark of a code is cleared (R84). -/
def State.markRead (s : State) (code : Nat) : State := s.updateRecord code fun r => { r with unread := false }

/-- A record returned by QUERY in a part (R84, R172). -/
def State.returned (s : State) (r : Record) (payload : BitVec 48) : Answer :=
  (s.markRead r.code,
    some { code := Request.query.code, outcome := .doneWithStatus, payload := payload })

/-- QUERY by its rule (R84, R172). -/
def State.queryRule (s : State) (code part : BitVec 8) : Answer :=
  if code = 0 then
    if part = 0 then
      match s.highestUnread with
      | some r => s.returned r (recordPart0 r)
      | none => s.answer .query .done
    else s.unavailable .query
  else
    match s.record code.toNat with
    | some r =>
      if part = 0 then s.returned r (recordPart0 r)
      else if part = 1 then s.returned r (recordPart1 r)
      else s.unavailable .query
    | none => s.unavailable .query

/-- QUERY (R84). -/
def execQuery (code part : BitVec 8) (s : State) : Host.Outcome State Fault Refusal :=
  .next (s.takeRequest .query fun t => t.queryRule code part)

/-! ### Reads -/

/-- A read answered with its payload, or UNAVAILABLE where there is none. -/
def State.readAnswer (s : State) (q : Request) (payload : Option (BitVec 48)) : Answer :=
  match payload with
  | some p => (s, some (Response.read q.code p))
  | none => s.unavailable q

/-- The payload of READ-VIEW; none for a station number or a part that there is not (R157). -/
def State.viewPayload (s : State) (station part : BitVec 8) : Option (BitVec 48) :=
  match stationOf station with
  | some i => if i = s.own then s.ownPayload part.toNat else s.peerPayload i part.toNat
  | none => none

/-- READ-VIEW (R157). -/
def execReadView (station part : BitVec 8) (s : State) : Host.Outcome State Fault Refusal :=
  .next (s.takeRequest .readView fun t => t.readAnswer .readView (t.viewPayload station part))

/-- The changed-since-read flag is cleared (R131, R132). -/
def State.markEnvelopeRead (s : State) : State := s.setEnvelope { s.envelope with changed := false }

/-- READ-ENVELOPE by its rule (R132). -/
def State.readEnvelopeRule (s : State) : Answer :=
  (s.markEnvelopeRead, some (Response.read Request.readEnvelope.code s.envelopePayload))

/-- READ-ENVELOPE (R132). -/
def execReadEnvelope (s : State) : Host.Outcome State Fault Refusal :=
  .next (s.takeRequest .readEnvelope State.readEnvelopeRule)

/-- READ-STACK (R108). -/
def execReadStack (part : BitVec 8) (s : State) : Host.Outcome State Fault Refusal :=
  .next (s.takeRequest .readStack fun t => t.readAnswer .readStack (t.stackPayload part.toNat))

/-- READ-CAUSE (R13). -/
def execReadCause (s : State) : Host.Outcome State Fault Refusal :=
  .next (s.takeRequest .readCause fun t => t.readAnswer .readCause (some (causePayload t.start.cause)))

/-- CLEAR-CAUSE by its rule (R13). -/
def State.clearCauseRule (s : State) : Answer :=
  (s.setStart { s.start with cause := { powerOn := false, pin := false, restart := false } }).answer
    .clearCause .done

/-- CLEAR-CAUSE (R13). -/
def execClearCause (s : State) : Host.Outcome State Fault Refusal :=
  .next (s.takeRequest .clearCause State.clearCauseRule)

/-! ### Supervision -/

/-- A refresh error made by a REFRESH, answered with the count it reached (R159). -/
def State.refreshErrorAnswer (s : State) : Answer :=
  (s.refreshError,
    some (Response.statusByte Request.refresh.code { refreshError := true } (s.supervision.errors + 1)))

/-- A complete refresh (R158, R159). -/
def State.completeRefresh (s : State) : State :=
  let s := s.setSupervision { s.supervision with firstToken := false, errors := 0 }
  if s.supervision.running then s.setSupervision { s.supervision with count := s.config.reload }
  else
    match s.config.startMode with
    | .onFirstRefresh => s.startSupervision
    | .auto => s

/-- REFRESH by its token and the first-token flag (R159). -/
def State.refreshRule (s : State) (token : BitVec 8) : Answer :=
  match tokenOf token, s.supervision.firstToken with
  | .first, false => (s.setSupervision { s.supervision with firstToken := true }).answer .refresh .done
  | .second, true => s.completeRefresh.answer .refresh .done
  | _, _ => s.refreshErrorAnswer

/-- REFRESH (R159). -/
def execRefresh (token : BitVec 8) (s : State) : Host.Outcome State Fault Refusal :=
  .next (s.takeRequest .refresh fun t => t.refreshRule token)

/-! ### Rejoin -/

/-- A record other than CEASED of level 5 or more is present (R142). -/
def State.severeBesidesCeased (s : State) : Bool :=
  s.engine.records.any fun r => decide (r.code ≠ 3 ∧ 5 ≤ r.level)

/-- The rejoin begins (R142). -/
def State.beginRejoin (s : State) : State :=
  s.setIsolation { s.isolation with own := .rejoining, readmit := [], rejoinTimer := some 0 }

/-- REJOIN by its rule (R142). -/
def State.rejoinRule (s : State) : Answer :=
  match s.isolation.own with
  | .active => s.unavailable .rejoin
  | .rejoining => s.answer .rejoin .busy
  | .isolated =>
    if s.severeBesidesCeased then s.answer .rejoin .busy else s.beginRejoin.answer .rejoin .done

/-- REJOIN (R142). -/
def execRejoin (s : State) : Host.Outcome State Fault Refusal :=
  .next (s.takeRequest .rejoin State.rejoinRule)

/-! ### Restart -/

def State.armRestart (s : State) (b : Bool) : State := s.setLink { s.link with restartArmed := b }

/-- RESTART by its token and the acceptor, where it does not reset the part (R162). -/
def State.restartRule (s : State) (token : BitVec 8) : Answer :=
  match tokenOf token, s.link.restartArmed with
  | .first, false => (s.armRestart true).answer .restart .done
  | _, _ => (s.armRestart false).unavailable .restart

/-- The RESTART reset (R12, R13, R162): its DONE is the one response in the queue. -/
def State.restartReset (s : State) (straps : Straps) : State :=
  (State.afterReset straps { s.start.cause with restart := true } s.trips s.pending).setLink
    { Link.initial with
      responses := [Response.plain Request.restart.code .done]
      out := s.link.out }

/-- A RESTART that resets the part: SECOND in a state that takes it, with the acceptor ARMED (R162). -/
def State.restartAccepted (s : State) (token : BitVec 8) : Bool :=
  Request.restart.takenIn s.station && decide (tokenOf token = .second) && s.link.restartArmed

/-- RESTART (R162). -/
def execRestart (token : BitVec 8) (straps : Straps) (s : State) : Host.Outcome State Fault Refusal :=
  if s.restartAccepted token then .next (s.clockOut.restartReset straps)
  else .next (s.takeRequest .restart fun t => t.restartRule token)

/-! ### Parking and waking -/

/-- PARK-ARM by its rule (R163). -/
def State.parkArmRule (s : State) : Answer :=
  (s.setStart { s.start with parkArmed := true }).answer .parkArm .done

/-- PARK-ARM (R163). -/
def execParkArm (s : State) : Host.Outcome State Fault Refusal :=
  .next (s.takeRequest .parkArm State.parkArmRule)

/-- The served vehicle speed is available and below 10 (R164). -/
def State.standing (s : State) : Bool :=
  match s.selector.served.speed with
  | some v => decide (v.value < 10)
  | none => false

/-- PARK-ENTER is accepted (R164). -/
def State.parkAllowed (s : State) : Bool :=
  s.start.parkArmed && decide (s.station = .run) && !s.anyUnread && !s.anyAtLeast 3 && s.standing
    && !s.config.strict

/-- The station enters PARKING and its parking beacon is given to the line (R164). -/
def State.enterParking (s : State) : State :=
  (s.setStation .parking).giveParkingBeacon (s.buildBeacon false true)

/-- PARK-ENTER by its rule (R163, R164); an accepted one is in flight (R156). -/
def State.parkEnterRule (s : State) : Answer :=
  if s.parkAllowed then (s.disarmPark.enterParking, none) else s.disarmPark.unavailable .parkEnter

/-- PARK-ENTER (R164). -/
def execParkEnter (s : State) : Host.Outcome State Fault Refusal :=
  .next (s.takeRequest .parkEnter State.parkEnterRule)

/-- The WAKE request (R167, R168). -/
def execWakeRequest (s : State) : Host.Outcome State Fault Refusal :=
  .next (s.takeRequest .wake fun t => t.wakeLocally.answer .wake .done)

end Sys2Proof.Machine
end

