-- ==== Sys2Proof/Machine/Resets.lean ====
section
/-! DEFINITION. The POWER-ON and PIN resets (R1, R2, R12, R13) and the expiry of the configuration window (R5 to R7). -/

namespace Sys2Proof.Machine

/-- POWER_ON (R12, R13). The trip inputs are the outside's and the waiting commands stay (log 5). -/
def execPowerOn (straps : Straps) (s : State) : Host.Outcome State Fault Refusal :=
  .next (State.afterReset straps { powerOn := true, pin := false, restart := false } s.trips s.pending)

/-- PIN (R12, R13). -/
def execPin (straps : Straps) (s : State) : Host.Outcome State Fault Refusal :=
  .next (State.afterReset straps { s.start.cause with pin := true } s.trips s.pending)

/-- The configuration window expires in CONFIG (R5, R7); in any other state it has ended already (R6). -/
def State.windowExpiry (s : State) : State :=
  if s.station = .config then s.handOver s.seal else s

/-- CONFIG_WINDOW_EXPIRY (R5, R6). -/
def execConfigWindowExpiry (s : State) : Host.Outcome State Fault Refusal := .next s.windowExpiry

end Sys2Proof.Machine
end

