-- ==== Sys2Proof/Machine/Expiries.lean ====
section
/-! DEFINITION. The part's own timers: the own beacon-timer expiry with the per-period work of every block, the
consequences of it that the table lists as steps of their own, the supervision timer and the rise timers. The
order inside one expiry is log 7; a consequence named in `later` is left to its own step, and a freshness count that
reaches its bound may be taken before the expiry (log 6). -/

namespace Sys2Proof.Machine

/-! ### Containment engine -/

/-- A record in DWELL counts one period (R81). -/
def countDwell (r : Record) : Record :=
  match r.life with
  | .dwell n => { r with life := .dwell (n - 1) }
  | _ => r

/-- A record whose dwell has run out (R81). -/
def dwellOver (r : Record) : Bool := decide (r.life = .dwell 0)

/-- The codes whose dwell ends at this expiry. The record of the lowest code is removed first, where R100 leaves the
order of two such removals open (log 7). -/
def endingCodes (later : List Later) (l : List Record) : List Nat :=
  ((l.filter dwellOver).map Record.code).filter fun c => !later.contains (.dwellEnd c)

/-- The own beacon count and the dwells (R73, R81). The count rises before any raise of the same expiry, so that a
record raised then is first seen at the new count; no rule gives that order (log 7). -/
def State.countRecords (later : List Later) (s : State) : State :=
  let s := s.setEngine
    { s.engine with
      beaconCount := s.engine.beaconCount + 1
      records := s.engine.records.map countDwell }
  (endingCodes later s.engine.records).foldl State.removeRecord s

/-- The wait of the contactor sequence ends (R120). -/
def State.releaseContactor (s : State) : State := s.setContactor .released s.engine.releaseCount

/-- The release count has reached its end while the sequence is RELEASING (R120). -/
def State.releaseDue (s : State) : Bool :=
  s.station.riding && decide (s.engine.contactor = .releasing ∧ Config.releasePeriods ≤ s.engine.releaseCount)

/-- The release count (R120). -/
def State.countRelease (later : List Later) (s : State) : State :=
  if s.station.riding ∧ s.engine.contactor = .releasing then
    let s := s.setContactor .releasing (addSat Config.releasePeriods s.engine.releaseCount 1)
    if s.releaseDue && !later.contains .releaseCount then s.releaseContactor else s
  else s

/-! ### Start control -/

/-- A clash age falls by 1 (R9). -/
def Place.countClash (p : Place) : Place := { p with clash := p.clash - 1 }

/-- A clash age that reaches 0 at this expiry and is acted on at once (R10). One that was left to CLASH_AGE_EXPIRY and
never taken is not found again by a later expiry (log 6). -/
def State.clashEnds (later : List Later) (s : State) : Bool :=
  stations.any fun i =>
    decide ((s.start.population.get i).clash = 1) && !later.contains (.clashAge i)

/-- The clash ages, and the population check that one of them reaching 0 calls for (R9, R10). -/
def State.countClashes (later : List Later) (s : State) : State :=
  let ends := s.clashEnds later
  let s := s.setStart { s.start with population := s.start.population.map Place.countClash }
  if ends then s.recheckPopulation else s

/-- Start control presents its two conditions in RUN and PARKING (R10). -/
def State.presentRoles (s : State) : State := if s.station.riding then s.presentPopulation else s

/-! ### Isolation unit -/

/-- A place of the cease record ages, and leaves at 16 (R140). -/
def ageCease (later : List Later) (l : List CeasePlace) : List CeasePlace :=
  (l.map fun p => { p with age := addSat Config.placePeriods p.age 1 }).filter fun p =>
    decide (p.age < Config.placePeriods) || later.contains (.ceasePlace p.sender)

/-- A place of the readmit record ages, and leaves at 16 (R144). -/
def ageReadmit (later : List Later) (l : List ReadmitPlace) : List ReadmitPlace :=
  (l.map fun p => { p with age := addSat Config.placePeriods p.age 1 }).filter fun p =>
    decide (p.age < Config.placePeriods) || later.contains (.readmitPlace p.sender)

/-- The places of both records age, and the quorum is compared (R140, R141, R144). Places that leave lower the
counted senders, so their order does not matter. -/
def State.agePlaces (later : List Later) (s : State) : State :=
  (s.setIsolation { s.isolation with
    cease := ageCease later s.isolation.cease
    readmit := ageReadmit later s.isolation.readmit }).compareQuorum

/-- The mute hold of a MUTED entry falls by 1 (R138). -/
def PeerEntry.countHold (e : PeerEntry) : PeerEntry :=
  if e.state = .muted then { e with muteHold := e.muteHold.map fun n => n - 1 } else e

def State.countHolds (s : State) : State :=
  if s.station.riding then s.setPeers (s.peers.map PeerEntry.countHold) else s

/-- The rejoin times out (R143): CEASED's unread mark is set, its count unchanged (R88). -/
def State.rejoinTimedOut (s : State) : State :=
  (s.setIsolation { s.isolation with own := .isolated, rejoinTimer := none, readmit := [] }).updateRecord 3
    fun r => { r with unread := true }

/-- The rejoin timer has reached its end (R143). -/
def State.rejoinDue (s : State) : Bool :=
  decide (s.station = .run ∧ s.isolation.own = .rejoining
    ∧ Config.rejoinPeriods ≤ s.isolation.rejoinTimer.getD 0)

/-- The rejoin timer (R143). -/
def State.countRejoin (later : List Later) (s : State) : State :=
  if s.station = .run ∧ s.isolation.own = .rejoining then
    let s := s.setIsolation { s.isolation with
      rejoinTimer := s.isolation.rejoinTimer.map fun n => addSat Config.rejoinPeriods n 1 }
    if s.rejoinDue && !later.contains .rejoinTimeout then s.rejoinTimedOut else s
  else s

/-- The READMITs still owed are given again, in ascending order of station number (R152). -/
def State.retryOwed (s : State) : State := s.isolation.owed.foldl State.giveReadmit s

/-! ### Peer view -/

/-- An entry after one period (R44): age and score. -/
def PeerEntry.aged (e : PeerEntry) : PeerEntry :=
  if e.heard then { e with heard := false }
  else
    let a := addSat 15 e.age 1
    { e with age := a, score := if 2 ≤ a then addSat 255 e.score 12 else e.score }

/-- An entry is aged (R44), its score reported (R47), its probation failed at age 2 (R149). -/
def State.agePeer (s : State) (i : Station) : State :=
  let e := s.peer i
  match e.state with
  | .live | .suspect => s.updateScored i e.aged
  | .probation =>
    let s := s.updatePeer i e.aged
    if !e.heard && decide (2 ≤ e.aged.age) then s.failProbation i else s
  | _ => s

/-- The age of a trusted entry has reached the loss limit (R45). -/
def State.lossDue (s : State) (i : Station) : Bool :=
  s.station.riding && (s.peer i).state.trusted && decide (s.config.lossLimit ≤ (s.peer i).age)

/-- An entry becomes LOST by its age (R45). -/
def State.losePeer (s : State) (i : Station) : State :=
  s.updatePeer i { s.peer i with state := .lost, selfCount := 0, downCause := .lost }

/-- The self-contained count of an entry (R48). -/
def State.countSelf (s : State) (i : Station) : State :=
  let e := s.peer i
  if e.state.trusted then
    s.setPeer i { e with selfCount := if e.ownLevel = 7 then addSat 255 e.selfCount 1 else 0 }
  else s

/-- The self-contained count and its report (R48), the report left to SELF_CONTAINED_COUNT where `later` names it. -/
def State.selfPeriod (later : List Later) (s : State) (i : Station) : State :=
  let s := s.countSelf i
  if later.contains (.selfContained i) then s else s.reportSelfContained i

/-- One entry's own-expiry work, in the order of R44, R45 and R48. The self-contained count comes after the loss check,
so an entry at the loss limit is not counted, whether its loss happens here or is left to PEER_LOSS (log 6). -/
def State.peerPeriod (later : List Later) (s : State) (i : Station) : State :=
  let s := s.agePeer i
  if s.lossDue i then
    if later.contains (.peerLoss i) then s else s.losePeer i
  else s.selfPeriod later i

/-- The peer view unit's own-expiry work in RUN and PARKING (R34). -/
def State.peersPeriod (later : List Later) (s : State) : State :=
  if s.station.riding then stations.foldl (State.peerPeriod later) s else s

/-- The conditions of every entry are presented (R49). -/
def State.presentPeers (s : State) : State := stations.foldl State.presentPeer s

/-! ### Quantity selector -/

/-- A persistence counter after an evaluation (R65). -/
def countPersistence (n : Nat) (disagrees : Bool) : Nat :=
  if disagrees then addSat Config.persistencePeriods n 1 else 0

/-- The disputed state after an evaluation that left the counter at `n` (R65). -/
def nowDisputed (later : List Later) (c : Check) (n : Nat) (was disagrees : Bool) : Bool :=
  disagrees && (was || (decide (Config.persistencePeriods ≤ n) && !later.contains (.persistence c)))

/-- The disputed states are set; the band follows the speed check, and DISPUTED the condition (R65, R70). -/
def State.setDisputed (s : State) (speed voltage : Bool) : State :=
  let wasSpeed := s.selector.speedDisputed
  let was := s.selector.speedDisputed || s.selector.voltageDisputed
  let s := s.setSelector { s.selector with speedDisputed := speed, voltageDisputed := voltage }
  let s := if speed = wasSpeed then s else s.workBand
  s.conditionNow was (speed || voltage) disputedRaise

/-- The outlier, unless it is the own station, is charged (R66). -/
def State.chargeOutlier (s : State) (x : Option Station) : State :=
  match x with
  | some i => if i = s.own then s else s.crossCharge i
  | none => s

/-- The speed check, the voltage check, their persistence and their charges (R63 to R66). The speed check's charge
is made before the voltage check's, an order that no rule gives (log 32). -/
def State.evaluateChecks (later : List Later) (s : State) : State :=
  let sel := s.selector
  let speedOut := s.speedDisagrees
  let voltOut := s.voltageDisagrees
  let speedCount := countPersistence sel.speedCount speedOut
  let voltCount := countPersistence sel.voltageCount voltOut
  let speedCharge :=
    if speedOut && sel.speedDisputed then outlier speedsDisagree s.speedSources else none
  let voltCharge :=
    if voltOut && sel.voltageDisputed then outlier voltagesDisagree s.voltageSources else none
  let s := s.setSelector { sel with speedCount := speedCount, voltageCount := voltCount }
  let s := s.setDisputed (nowDisputed later .speed speedCount sel.speedDisputed speedOut)
    (nowDisputed later .voltage voltCount sel.voltageDisputed voltOut)
  ((s.chargeOutlier speedCharge).chargeOutlier voltCharge).refreshServed

def State.setBrake (s : State) (n : Nat) (holds : Bool) : State :=
  s.setSelector { s.selector with brakeCount := n, brakeHolds := holds }

/-- Torque is demanded against the brake (R68). -/
def State.brakeAgainstThrottle (s : State) : Bool :=
  decide (100 < servedValue s.selector.served.throttle ∧ servedValue s.selector.served.brake = 1)

/-- The brake-throttle count has reached its end (R68). -/
def State.brakeDue (s : State) : Bool :=
  s.station.riding && !s.selector.brakeHolds && decide (Config.brakeThrottlePeriods ≤ s.selector.brakeCount)

/-- BRAKE-THROTTLE begins (R68). -/
def State.beginBrake (s : State) : State :=
  (s.setBrake s.selector.brakeCount true).raise brakeThrottleRaise

/-- The brake-throttle count (R68). -/
def State.countBrake (later : List Later) (s : State) : State :=
  if s.selector.brakeHolds then
    if servedValue s.selector.served.throttle < 50 then
      (s.setBrake 0 false).conditionGone brakeThrottleRaise.code
    else s
  else if s.brakeAgainstThrottle then
    let s := s.setBrake (addSat Config.brakeThrottlePeriods s.selector.brakeCount 1) false
    if s.brakeDue && !later.contains .brakeThrottle then s.beginBrake else s
  else s.setBrake 0 false

/-- A condition is presented while it holds (R76). -/
def State.presentIf (s : State) (holds : Bool) (a : Raise) : State := if holds then s.present a else s

/-- The selector presents its conditions (R62), in the order of their codes, which no rule gives (log 32). -/
def State.presentSelector (s : State) : State :=
  let s := s.presentIf (s.selector.speedDisputed || s.selector.voltageDisputed) disputedRaise
  let s := s.presentIf s.selector.speedUnknown speedUnknownRaise
  let s := s.presentIf s.selector.brakeHolds brakeThrottleRaise
  s.presentIf s.selector.chargeHolds chargeInterlockRaise

/-- Freshness in JOIN, RUN and PARKING (R57), and the evaluation in RUN and PARKING (R61, R62). -/
def State.selectorPeriod (later : List Later) (s : State) : State :=
  let s := (s.mapOwn countFresh).refreshServed
  if s.station.riding then ((s.evaluateChecks later).countBrake later).presentSelector else s

/-! ### Line interface -/

def txFailRaise : Raise := { code := 52, level := 4, fm := 256, fr := 256 }
def degradedRaise : Raise := { code := 50, level := 3, fm := 256, fr := 256 }
def stuckRaise : Raise := { code := 51, level := 6, fm := 0, fr := 128 }

/-- The line interface presents its three conditions (R31; in PARKING too, log 28): TX-FAIL, LINE-DEGRADED,
LINE-STUCK, an order that no rule gives (log 32). -/
def State.presentLine (s : State) : State :=
  let s := s.presentIf (decide (Config.txFailAt ≤ s.line.txFailures)) txFailRaise
  let s := s.presentIf s.line.degraded degradedRaise
  s.presentIf (decide (s.line.stuck ≠ .clear)) stuckRaise

/-- The periodic beacon is built and given to the beacon slot (R16, R21). -/
def State.periodicBeacon (s : State) : State :=
  s.giveBeacon (s.buildBeacon (decide (s.station = .join)) false)

/-- The discovery counter, and the entry to RUN (R8). -/
def State.countDiscovery (later : List Later) (s : State) : State :=
  if s.station = .join then
    let n := addSat Config.joinPeriods s.start.discovery 1
    let s := s.setStart { s.start with discovery := n }
    if decide (Config.joinPeriods ≤ n) && !later.contains .entryToRun then s.enterRun else s
  else s

/-! ### The own expiry -/

/-- One own beacon-timer expiry: the per-period work of every block (log 7). In a state in which the beacon
timer is stopped there is none. -/
def State.ownExpiry (later : List Later) (s : State) : State :=
  if s.station.onLine then
    let t := s.setStart { s.start with beaconTimer := some (periodMs s.config.period) }
    let t := t.countRecords later
    let t := t.countRelease later
    let t := (t.countClashes later).presentRoles
    let t := t.agePlaces later
    let t := (t.countHolds.countRejoin later).retryOwed
    let t := (t.peersPeriod later).presentPeers.refreshServed
    let t := t.selectorPeriod later
    let t := t.presentLine.periodicBeacon
    let t := t.countDiscovery later
    s.finish t
  else s

/-- OWN_BEACON_EXPIRY (R8). -/
def execOwnBeaconExpiry (later : List Later) (s : State) : Host.Outcome State Fault Refusal :=
  .next (s.ownExpiry later)

/-! ### Consequences taken as steps of their own -/

/-- A step that is taken only when it is due, and otherwise changes nothing (log 6). -/
def State.ifDue (s : State) (due : Bool) (t : State) : State := if due then s.finish t else s

/-- ENTRY_TO_RUN (R8): the discovery counter stands at 4 in JOIN. -/
def execEntryToRun (s : State) : Host.Outcome State Fault Refusal :=
  .next (s.ifDue (decide (s.station = .join ∧ Config.joinPeriods ≤ s.start.discovery)) s.enterRun)

/-- CLASH_AGE_EXPIRY (R10): a clash age stands at 0 in RUN or PARKING, and the check runs. -/
def execClashAgeExpiry (i : Station) (s : State) : Host.Outcome State Fault Refusal :=
  .next (s.ifDue (s.station.riding && decide ((s.start.population.get i).clash = 0)) s.populationCheck)

/-- PEER_LOSS (R45). -/
def execPeerLoss (i : Station) (s : State) : Host.Outcome State Fault Refusal :=
  .next (s.ifDue (s.lossDue i) (s.losePeer i))

/-- The self-contained count of an entry stands at 16 or more, after the loss check (R48): the loss of an entry that has
aged to the loss limit comes first. -/
def State.selfContainedDue (s : State) (i : Station) : Bool :=
  !s.lossDue i && decide (Config.selfContainedAt ≤ (s.peer i).selfCount)

/-- SELF_CONTAINED_COUNT (R48, R136): a report at a count of 16 or more, acted on in RUN. -/
def execSelfContainedCount (i : Station) (s : State) : Host.Outcome State Fault Refusal :=
  .next (s.ifDue (s.selfContainedDue i) (s.reportSelfContained i))

/-- FRESHNESS_EXPIRY (R57): the count of an own value reaches 4. It is that value's share of the own expiry and comes
before the rest of it; the own expiry that follows finds the flag clear and does not count it again (log 6). -/
def execFreshnessExpiry (q : Quantity) (s : State) : Host.Outcome State Fault Refusal :=
  .next (s.ifDue s.station.onLine (s.mapOwn (expireFresh q)))

/-- A check whose counter stands at 4 becomes disputed (R65). -/
def State.persist (s : State) (c : Check) : State :=
  match c with
  | .speed => s.setDisputed true s.selector.voltageDisputed
  | .voltage => s.setDisputed s.selector.speedDisputed true

/-- The persistence counter of a check. -/
def State.persistence (s : State) (c : Check) : Nat :=
  match c with
  | .speed => s.selector.speedCount
  | .voltage => s.selector.voltageCount

/-- PERSISTENCE_EXPIRY (R65). -/
def execPersistenceExpiry (c : Check) (s : State) : Host.Outcome State Fault Refusal :=
  .next (s.ifDue (s.station.riding && decide (Config.persistencePeriods ≤ s.persistence c)) (s.persist c))

/-- BRAKE_THROTTLE_COUNT (R68). -/
def execBrakeThrottleCount (s : State) : Host.Outcome State Fault Refusal :=
  .next (s.ifDue s.brakeDue s.beginBrake)

/-- The dwell of a code's record has run out (R81). -/
def State.dwellDue (s : State) (code : Nat) : Bool :=
  s.station.onLine && (match s.record code with | some r => dwellOver r | none => false)

/-- DWELL_END (R81). -/
def execDwellEnd (code : Nat) (s : State) : Host.Outcome State Fault Refusal :=
  .next (s.ifDue (s.dwellDue code) (s.removeRecord code))

/-- RELEASE_COUNT_EXPIRY (R120). -/
def execReleaseCountExpiry (s : State) : Host.Outcome State Fault Refusal :=
  .next (s.ifDue s.releaseDue s.releaseContactor)

/-- REJOIN_TIMEOUT (R143). -/
def execRejoinTimeout (s : State) : Host.Outcome State Fault Refusal :=
  .next (s.ifDue s.rejoinDue s.rejoinTimedOut)

/-- The places of a sender that have stood for 16 periods leave the cease record (R140). -/
def State.dropCease (s : State) (i : Station) : State :=
  (s.setIsolation { s.isolation with
    cease := s.isolation.cease.filter fun p =>
      !(decide (p.sender = i ∧ Config.placePeriods ≤ p.age)) }).compareQuorum

/-- CEASE_PLACE_EXPIRY (R140). -/
def execCeasePlaceExpiry (i : Station) (s : State) : Host.Outcome State Fault Refusal :=
  .next (s.ifDue s.station.onLine (s.dropCease i))

/-- The places of a sender that have stood for 16 periods leave the readmit record (R144). -/
def State.dropReadmit (s : State) (i : Station) : State :=
  (s.setIsolation { s.isolation with
    readmit := s.isolation.readmit.filter fun p =>
      !(decide (p.sender = i ∧ Config.placePeriods ≤ p.age)) }).compareQuorum

/-- READMIT_PLACE_EXPIRY (R144). -/
def execReadmitPlaceExpiry (i : Station) (s : State) : Host.Outcome State Fault Refusal :=
  .next (s.ifDue s.station.onLine (s.dropReadmit i))

/-! ### Supervision timer and rise timers -/

/-- An expiry of the supervision timer (R158): SUPERVISION is raised and the count takes the reload. -/
def State.supervisionExpiry (s : State) : State :=
  let t := s.raiseSupervision
  t.setSupervision { t.supervision with count := t.config.reload }

/-- The timer is running in a state in which it counts (R161). -/
def State.supervised (s : State) : Bool := s.supervision.running && s.station.onLine

/-- SUPERVISION_EXPIRY (R158). -/
def execSupervisionExpiry (s : State) : Host.Outcome State Fault Refusal :=
  .next (s.ifDue s.supervised s.supervisionExpiry)

/-- A rise timer runs. -/
def State.rising (s : State) (r : Ramp) : Bool :=
  match r with
  | .motoring => s.envelope.motoringTimer.isSome
  | .regen => s.envelope.regenTimer.isSome

/-- A rise timer expires (R130). -/
def State.rise (s : State) (r : Ramp) : State :=
  match r with
  | .motoring => s.setEnvelope (s.envelope.riseMotoring s.config.motoringRise)
  | .regen => s.setEnvelope (s.envelope.riseRegen s.config.regenRise)

/-- RISE_TIMER_EXPIRY (R130). -/
def execRiseTimerExpiry (r : Ramp) (s : State) : Host.Outcome State Fault Refusal :=
  .next (s.ifDue (s.rising r) (s.rise r))

end Sys2Proof.Machine
end

