-- ==== Sys2Proof/Machine/Inputs.lean ====
section
/-! DEFINITION. The four trip inputs (R86, R112, R113, R166, R168). -/

namespace Sys2Proof.Machine

/-- Trip input `n` at a level. -/
def State.setTrip (s : State) (n : TripInput) (level : Bool) : State :=
  s.setTrips (if level then s.trips ||| BitVec.ofNat 4 (2 ^ n.val) else s.trips &&& ~~~(BitVec.ofNat 4 (2 ^ n.val)))

/-- An enabled input has turned asserted (R86): HARD-TRIP is raised, in PARKED after the wake (R168). In HOLD
and CONFIG the inputs raise nothing (R2, R5). -/
def State.arrive (s : State) (n : TripInput) : State :=
  match s.station with
  | .hold => s
  | .config => s
  | .join => s.raise (hardTripRaise n)
  | .run => s.raise (hardTripRaise n)
  | .parking => s.raise (hardTripRaise n)
  | .parked => s.wakeLocally.raise (hardTripRaise n)

/-- Input `n` turns asserted; one that is held asserted does not arrive again, and a disabled one has no
effect (R86). -/
def State.tripUp (s : State) (n : TripInput) : State :=
  let t := s.setTrip n true
  if s.tripEnabled n then s.finish (t.arrive n) else t

/-- TRIP_ARRIVAL (R86). -/
def execTripArrival (n : TripInput) (s : State) : Host.Outcome State Fault Refusal :=
  .next (if s.tripLevel n then s else s.tripUp n)

/-- The states in which the end of the trip condition reaches the fault table (R75, R86). -/
def StationState.awake : StationState → Bool
  | .hold => false
  | .config => false
  | _ => true

/-- Input `n` deasserts: with no enabled input left asserted, the condition of HARD-TRIP has gone (R86). -/
def State.tripDown (s : State) (n : TripInput) : State :=
  let t := s.setTrip n false
  if s.tripEnabled n then
    s.finish (if t.tripAsserted || !t.station.awake then t else t.conditionGone 1)
  else t

/-- TRIP_DEASSERT (R86). -/
def execTripDeassert (n : TripInput) (s : State) : Host.Outcome State Fault Refusal :=
  .next (if s.tripLevel n then s.tripDown n else s)

end Sys2Proof.Machine
end

