-- ==== Sys2Proof/Machine/Sending.lean ====
section
/-! DEFINITION. The sending side of the line interface: what is offered (R22, R32), attempts and their outcomes (R15,
R17, R23, R24), the reports of frames sent and dropped (R20, R21, R165, R166). No command says when an attempt wins:
what happens during one is worked out for a frame that has won and for one that has not, and the attempt's
outcome chooses between the two (log 9). -/

namespace Sys2Proof.Machine

/-! ### Heads of queues -/

variable {α : Type}

/-- The head of a queue is committed. -/
def headCommitted : List (Queued α) → Bool
  | q :: _ => q.committed
  | [] => false

/-- The frame of a slot is committed. -/
def slotCommitted : Option (Queued α) → Bool
  | some q => q.committed
  | none => false

/-- The head's commitment replaced. -/
def commitHead (c : Bool) : List (Queued α) → List (Queued α)
  | q :: rest => { q with committed := c } :: rest
  | [] => []

/-- A frame whose attempt failed before its last (R23). -/
def Queued.retried (q : Queued α) : Queued α := { q with attempt := q.attempt + 1, committed := true }

/-- The failed attempt was the last (R23). -/
def Queued.lastFailed (q : Queued α) : Bool := decide (Config.lastAttempt ≤ q.attempt)

/-! ### Offering -/

/-- The queue whose frame is committed (R22). -/
def LineInterface.committedQueue (l : LineInterface) : Option TxQueue :=
  if headCommitted l.alerts then some .alert
  else if headCommitted l.directives then some .directive
  else if slotCommitted l.beacon then some .beacon
  else if slotCommitted l.wake then some .wake
  else none

/-- The best-ranked queue that is not empty (R22). -/
def LineInterface.bestQueue (l : LineInterface) : Option TxQueue :=
  if !l.alerts.isEmpty then some .alert
  else if !l.directives.isEmpty then some .directive
  else if l.beacon.isSome then some .beacon
  else if l.wake.isSome then some .wake
  else none

/-- The queue whose head is offered when the line is idle: none while an attempt is on the line, while the
line is stuck (R30) and where the station state does not permit sending (R32). -/
def State.offered (s : State) : Option TxQueue :=
  if s.line.attempt.isSome || decide (s.line.stuck ≠ .clear) then none
  else
    match s.station with
    | .hold => none
    | .config => none
    | .join => s.line.committedQueue <|> s.line.bestQueue
    | .run => s.line.committedQueue <|> s.line.bestQueue
    | .parking => s.line.committedQueue <|> s.line.bestQueue
    | .parked => if s.line.wake.isSome then some .wake else none

/-- The frame at the head of a queue was committed. -/
def LineInterface.committedAt (l : LineInterface) : TxQueue → Bool
  | .alert => headCommitted l.alerts
  | .directive => headCommitted l.directives
  | .beacon => slotCommitted l.beacon
  | .wake => slotCommitted l.wake

/-- The commitment of the frame at the head of a queue replaced. -/
def LineInterface.commitAt (l : LineInterface) (c : Bool) : TxQueue → LineInterface
  | .alert => { l with alerts := commitHead c l.alerts }
  | .directive => { l with directives := commitHead c l.directives }
  | .beacon => { l with beacon := l.beacon.map fun q => { q with committed := c } }
  | .wake => { l with wake := l.wake.map fun q => { q with committed := c } }

/-- A beacon that has not been numbered takes the counter's number (R17). -/
def OutBeacon.number (n : Fin 16) (b : OutBeacon) : OutBeacon :=
  if b.numbered then b else { beacon := { b.beacon with sequence := n }, numbered := true }

/-- The sequence number is written when an attempt of a beacon begins (R17). -/
def LineInterface.numberAt (l : LineInterface) : TxQueue → LineInterface
  | .beacon => { l with beacon := l.beacon.map fun q => { q with frame := q.frame.number l.sequence } }
  | _ => l

/-- An attempt of the head of queue `k` begins (R15, R17, R22): the line interface holds its frame as committed,
and beside it what is held if contention is lost. -/
def LineInterface.begin (l : LineInterface) (k : TxQueue) : LineInterface :=
  { (l.numberAt k).commitAt true k with
    attempt := some
      { queue := k, wasCommitted := l.committedAt k, ifLost := (l.numberAt k).toHeldFrames } }

/-- ATTEMPT_START (R22). With nothing to offer, no attempt begins. -/
def execAttemptStart (s : State) : Host.Outcome State Fault Refusal :=
  match s.offered with
  | some k => .next (s.setLine (s.line.begin k))
  | none => .next s

/-! ### Lost contention -/

/-- The attempt has lost contention (R15, R22): its frame has the commitment it had, and the frames given
meanwhile were placed beside a frame that had won nothing (R19, R21). -/
def LineInterface.lose (l : LineInterface) (a : Attempt) : LineInterface :=
  { l.commitAt a.wasCommitted a.queue with toHeldFrames := a.ifLost, attempt := none }

/-- LOST_CONTENTION (R15). With no attempt on the line nothing changes (log 2). -/
def execLostContention (s : State) : Host.Outcome State Fault Refusal :=
  match s.line.attempt with
  | some a => .next (s.setLine (s.line.lose a))
  | none => .next s

/-! ### Frames sent -/

/-- The parking beacon of the park in progress: it carries PARKING and no later one waits (R21, log 10). -/
def State.isParkingBeacon (s : State) (b : Beacon) : Bool :=
  b.flags.parking && decide (s.station = .parking) && s.line.parkingWaiting.isNone

/-- A beacon has been sent (R17, R23): the parking beacon takes the station to PARKED (R165). -/
def State.beaconSent (s : State) : State :=
  match s.line.beacon with
  | none => s
  | some q =>
    let t := (s.setLine { s.line with sequence := s.line.sequence + 1 }).emptyBeaconSlot
    if s.isParkingBeacon q.frame.beacon then t.enterParked else t

/-- The frame at the head of a queue has been sent and leaves it (R23). -/
def State.frameSent (s : State) (k : TxQueue) : State :=
  match k with
  | .alert => s.setLine { s.line with alerts := s.line.alerts.tail }
  | .directive => s.setLine { s.line with directives := s.line.directives.tail }
  | .beacon => s.beaconSent
  | .wake => s.setLine { s.line with wake := none }

/-- The transmit-failure counter returns to 0, and TX-FAIL's condition goes if it held (R24). -/
def State.clearFailures (s : State) : State :=
  let failing := decide (Config.txFailAt ≤ s.line.txFailures)
  let s := s.setLine { s.line with attempt := none, txFailures := 0 }
  if failing then s.conditionGone txFailRaise.code else s

/-- ATTEMPT_SUCCESS (R23). With no attempt on the line nothing changes (log 2). -/
def execAttemptSuccess (s : State) : Host.Outcome State Fault Refusal :=
  match s.line.attempt with
  | some a => .next (s.finish (s.clearFailures.frameSent a.queue))
  | none => .next s

/-! ### Failed attempts -/

/-- A failed attempt of an alert; one dropped is lost (R19, R23). -/
def State.alertFailed (s : State) : State :=
  match s.line.alerts with
  | [] => s
  | q :: rest => s.setLine { s.line with alerts := if q.lastFailed then rest else q.retried :: rest }

/-- A failed attempt of a directive; one dropped is reported to the isolation unit (R20, R23). -/
def State.directiveFailed (s : State) : State :=
  match s.line.directives with
  | [] => s
  | q :: rest =>
    if q.lastFailed then (s.setLine { s.line with directives := rest }).directiveLost q.frame
    else s.setLine { s.line with directives := q.retried :: rest }

/-- A failed attempt of a beacon; the parking beacon dropped abandons the park (R21, R23, R166). -/
def State.beaconFailed (s : State) : State :=
  match s.line.beacon with
  | none => s
  | some q =>
    if q.lastFailed then
      if s.isParkingBeacon q.frame.beacon then s.emptyBeaconSlot.abandonPark else s.emptyBeaconSlot
    else s.setLine { s.line with beacon := some q.retried }

/-- A failed attempt of a WAKE; one dropped is lost (R21, R23). -/
def State.wakeFailed (s : State) : State :=
  match s.line.wake with
  | none => s
  | some q => s.setLine { s.line with wake := if q.lastFailed then none else some q.retried }

/-- The frame at the head of a queue has failed an attempt (R23). -/
def State.frameFailed (s : State) (k : TxQueue) : State :=
  match k with
  | .alert => s.alertFailed
  | .directive => s.directiveFailed
  | .beacon => s.beaconFailed
  | .wake => s.wakeFailed

/-- TX-FAIL is raised when a failed attempt has brought the counter from 7 to 8 (R24); in PARKED nothing is
raised (R32). -/
def State.raiseTxFail (s : State) (before : Nat) : State :=
  if before + 1 = Config.txFailAt ∧ s.station.onLine then s.raise txFailRaise else s

/-- ATTEMPT_FAILURE (R23, R24). With no attempt on the line nothing changes (log 2). -/
def execAttemptFailure (s : State) : Host.Outcome State Fault Refusal :=
  match s.line.attempt with
  | some a =>
    let t := s.setLine { s.line with attempt := none, txFailures := addSat 255 s.line.txFailures 1 }
    .next (s.finish ((t.frameFailed a.queue).raiseTxFail s.line.txFailures))
  | none => .next s

end Sys2Proof.Machine
end

