-- ==== Sys2Proof/Machine/Receiving.lean ====
section
/-! DEFINITION. The receiving side: good frames by kind (R25, R26, R36 to R42, R139 to R152), damaged frames (R27, R28,
R43), the stuck line (R29, R30). Start control takes a frame first, then the peer view unit, then the isolation
unit (log 11). -/

namespace Sys2Proof.Machine

/-! ### The line-error counter -/

/-- A good frame lowers the line-error counter, and LINE-DEGRADED ends at 32 (R28). -/
def State.goodFrame (s : State) : State :=
  let n := s.line.lineErrors - 1
  let ends := s.line.degraded && decide (n ≤ Config.degradedGoneAt)
  let s := s.setLine { s.line with lineErrors := n, degraded := s.line.degraded && !ends }
  if ends then s.conditionGone degradedRaise.code else s

/-- An unattributed bad frame raises the counter, and LINE-DEGRADED begins at 64 (R28). -/
def State.badFrame (s : State) : State :=
  let n := addSat 255 s.line.lineErrors 1
  let begins := !s.line.degraded && decide (Config.degradedAt ≤ n)
  let s := s.setLine { s.line with lineErrors := n, degraded := s.line.degraded || begins }
  if begins then s.raise degradedRaise else s

/-- An attributed bad frame of peer `i` (R27, R43): charged in LIVE and SUSPECT; in PROBATION it fails the
probation (R149); in any other state nothing. -/
def State.chargeBadFrame (s : State) (i : Station) : State :=
  let e := s.peer i
  match e.state with
  | .live => s.updateScored i (e.charge 24)
  | .suspect => s.updateScored i (e.charge 24)
  | .probation => (s.updatePeer i (e.charge 24)).failProbation i
  | .absent => s
  | .lost => s
  | .parked => s
  | .muted => s

/-- A damaged frame with a sound key (R25, R27): one that names the own station is unattributed. -/
def State.damaged (s : State) (i : Station) : State :=
  if i = s.own then s.badFrame else s.chargeBadFrame i

/-- A frame heard in a state in which frames are handed on (R26, R32). One that is not well formed is an
attributed bad frame (R25, log 20); one with the own number is reported to start control (R9, R26). -/
def State.hear (s : State) (wellFormed : Bool) (sender : Station) (take : State → State) : State :=
  if s.station.onLine then
    if !wellFormed then s.finish (s.damaged sender)
    else if sender = s.own then s.finish s.goodFrame.ownClash
    else s.finish (take s.goodFrame)
  else s

/-! ### Muted peers -/

/-- A good frame of a MUTED peer is counted (R41), and the CEASE it is owed is given (R139). -/
def State.countMuted (s : State) (i : Station) : State :=
  let e := s.peer i
  if e.state = .muted then (s.setPeer i { e with frames := addSat 255 e.frames 1 }).giveCease i else s

/-! ### Beacons -/

/-- LIVE, or PARKED when the beacon carries PARKING (R36). -/
def stateByParking (b : Beacon) : EntryState := if b.flags.parking then .parked else .live

/-- A beacon that finds the entry ABSENT (R36). -/
def State.beaconAtAbsent (s : State) (b : Beacon) : State :=
  s.hearPeer b.sender { (s.peer b.sender).store b with state := stateByParking b, score := 0 }

/-- An entry with a beacon's fields stored and the score changed by its class (R35, R36, R46). -/
def PeerEntry.storeScored (e : PeerEntry) (b : Beacon) : PeerEntry :=
  { e.store b with score := scoreAfter e.score (seqClass e.lastSeq b.sequence) }

/-- A beacon that finds the entry PARKED (R36). -/
def State.beaconAtParked (s : State) (b : Beacon) : State :=
  s.hearScored b.sender { (s.peer b.sender).storeScored b with state := stateByParking b }

/-- The peer has restarted (R38). -/
def State.peerRestarts (s : State) (b : Beacon) : State :=
  (s.updatePeer b.sender { (s.peer b.sender).store b with
    state := .lost, selfCount := 0, downCause := .restarted }).enqueueRejoin b.sender

/-- The peer parks (R39; log 12). -/
def State.peerParks (s : State) (b : Beacon) : State :=
  s.updatePeer b.sender { (s.peer b.sender).storeScored b with state := .parked, selfCount := 0 }

/-- A beacon that finds the entry LIVE or SUSPECT (R37). -/
def State.beaconAtTrusted (s : State) (b : Beacon) : State :=
  let e := s.peer b.sender
  if b.flags.joining && !e.flags.joining then s.peerRestarts b
  else if b.flags.parking then s.peerParks b
  else s.hearScored b.sender (e.storeScored b)

/-- A beacon that finds the entry LOST (R40): stored, and the peer reported for the rejoin queue. With PARKING set
too the report starts a probation where none runs (R146): the model's choice, since R40 also says that such an entry
stays LOST (log 37). -/
def State.beaconAtLost (s : State) (b : Beacon) : State :=
  (s.updatePeer b.sender ((s.peer b.sender).store b)).enqueueRejoin b.sender

/-- A beacon that lets a MUTED peer whose hold has run out ask to return (R138, R146); one with PARKING set too,
while its ISOLATED flag is clear (log 13). -/
def asksReturn (b : Beacon) : Bool := b.flags.rejoin || b.flags.joining || !b.flags.isolated

/-- A beacon that finds the entry MUTED (R41, R138, R139, R146). -/
def State.beaconAtMuted (s : State) (b : Beacon) : State :=
  let i := b.sender
  let s := (s.setPeer i { s.peer i with lastSeq := b.sequence, flags := b.flags }).countMuted i
  if (s.peer i).muteHold = some 0 ∧ asksReturn b then s.enqueueRejoin i else s

/-- A beacon with ISOLATED set shows REJOIN too where the origin is MUTED (R148, R149). -/
def stillRejoining (p : Probation) (b : Beacon) : Bool :=
  decide (p.origin ≠ .muted) || !b.flags.isolated || b.flags.rejoin

/-- A beacon fails the probation of entry `e` (R149). -/
def beaconFails (p : Probation) (e : PeerEntry) (b : Beacon) : Bool :=
  (match seqClass e.lastSeq b.sequence with | .gap _ => true | _ => false)
    || !stillRejoining p b
    || decide (beaconLevel b = 7)
    || (b.flags.joining && !e.flags.joining)

/-- A clean beacon (R148). -/
def cleanBeacon (p : Probation) (e : PeerEntry) (b : Beacon) : Bool :=
  decide (seqClass e.lastSeq b.sequence = .next ∧ beaconLevel b ≠ 7) && stillRejoining p b

/-- A beacon that counts adds to the clean count, and the eighth ends the probation (R148, R152). -/
def State.countClean (s : State) (i : Station) (p : Probation) : State :=
  let n := addSat Config.cleanBeacons p.clean 1
  let s := s.setIsolation { s.isolation with probation := some { p with clean := n } }
  if Config.cleanBeacons ≤ n then s.passProbation i else s

/-- A beacon of the peer in probation (R41, R148 to R150; log 14). -/
def State.beaconOnProbation (s : State) (p : Probation) (b : Beacon) : State :=
  let i := b.sender
  let e := s.peer i
  let t := s.updatePeer i (e.storeScored b)
  if p.origin = .lost ∧ b.flags.parking then t.abandonProbation i
  else if beaconFails p e b then t.failProbation i
  else if cleanBeacon p e b && !s.isolation.suspended then t.countClean i p
  else t

/-- A beacon that finds the entry in PROBATION. The probation record names it (R147). -/
def State.beaconAtProbation (s : State) (b : Beacon) : State :=
  match s.probationOf b.sender with
  | some p => s.beaconOnProbation p b
  | none => s.updatePeer b.sender ((s.peer b.sender).storeScored b)

/-- A good beacon of a peer at the peer view unit and the isolation unit (R36 to R41). -/
def State.takeBeacon (s : State) (b : Beacon) : State :=
  match (s.peer b.sender).state with
  | .absent => s.beaconAtAbsent b
  | .parked => s.beaconAtParked b
  | .live => s.beaconAtTrusted b
  | .suspect => s.beaconAtTrusted b
  | .lost => s.beaconAtLost b
  | .muted => s.beaconAtMuted b
  | .probation => s.beaconAtProbation b

/-- BEACON_RECEIVED (R26, R37). -/
def execBeaconReceived (b : Beacon) (s : State) : Host.Outcome State Fault Refusal :=
  .next (s.hear b.wf b.sender fun t => (t.hearRole b.sender b.published.role).takeBeacon b)

/-! ### Alerts -/

/-- A good ALERT of a peer by the state of its entry (R42, R149). -/
def State.takeAlert (s : State) (a : Alert) : State :=
  let i := a.sender
  let e := s.peer i
  let told := { e with ownLevel := a.ownLevel }
  match e.state with
  | .live => s.hearPeer i told
  | .suspect => s.hearPeer i told
  | .lost => s.setPeer i told
  | .probation =>
    let s := s.setPeer i told
    if alertLevel a e.flags.isolated = 7 then s.failProbation i else s
  | .muted => s.countMuted i
  | .absent => s
  | .parked => s

/-- ALERT_RECEIVED (R42). -/
def execAlertReceived (a : Alert) (s : State) : Host.Outcome State Fault Refusal :=
  .next (s.hear a.wf a.sender fun t => t.takeAlert a)

/-! ### Directives -/

/-- The cease record with a sender's place entered or refreshed (R140); a new place stands last (log 19). -/
def enterCease (i : Station) (r : MuteReason) (l : List CeasePlace) : List CeasePlace :=
  if l.any fun p => p.sender == i then
    l.map fun p => if p.sender = i then { p with age := 0, reason := r } else p
  else l ++ [{ sender := i, age := 0, reason := r }]

/-- The readmit record with a sender's place entered or refreshed (R144); a new place stands last (log 19). -/
def enterReadmit (i : Station) (l : List ReadmitPlace) : List ReadmitPlace :=
  if l.any fun p => p.sender == i then
    l.map fun p => if p.sender = i then { p with age := 0 } else p
  else l ++ [{ sender := i, age := 0 }]

/-- A rejoin is abandoned by a counted CEASE (R145). -/
def State.abandonRejoin (s : State) : State :=
  if s.isolation.own = .rejoining then
    (s.setIsolation { s.isolation with own := .isolated, rejoinTimer := none, readmit := [] }).raise
      ceasedRaise
  else s

/-- A counted CEASE against this station (R140, R141, R145). -/
def State.ceased (s : State) (c : Cease) : State :=
  (s.setIsolation
    { s.isolation with
      cease := enterCease c.sender c.reason s.isolation.cease }).abandonRejoin.compareQuorum

/-- A directive is acted on: in RUN and PARKING, from a trusted sender (R135, R140, R144, R149). -/
def State.counts (s : State) (sender : Station) : Bool := s.station.riding && (s.peer sender).state.trusted

/-- A good CEASE at the isolation unit (R140, R149). -/
def State.takeCease (s : State) (c : Cease) : State :=
  if s.counts c.sender then
    if c.target = s.own then s.ceased c
    else
      match s.probationOf c.target with
      | some _ => s.failProbation c.target
      | none => s
  else s

/-- CEASE_RECEIVED (R42, R140). -/
def execCeaseReceived (c : Cease) (s : State) : Host.Outcome State Fault Refusal :=
  .next (s.hear c.wf c.sender fun t => (t.countMuted c.sender).takeCease c)

/-- A good READMIT at the isolation unit (R144). -/
def State.takeReadmit (s : State) (r : Readmit) : State :=
  if s.counts r.sender && decide (r.target = s.own ∧ s.isolation.own = .rejoining) then
    (s.setIsolation
      { s.isolation with readmit := enterReadmit r.sender s.isolation.readmit }).compareQuorum
  else s

/-- READMIT_RECEIVED (R42, R144). -/
def execReadmitReceived (r : Readmit) (s : State) : Host.Outcome State Fault Refusal :=
  .next (s.hear r.wf r.sender fun t => (t.countMuted r.sender).takeReadmit r)

/-! ### Wakes and frames of the own number -/

/-- A WAKE heard in PARKED (R168): the station wakes, and a key with the own number sets the own clash age
(R9). -/
def State.wakeByFrame (s : State) (sender : Station) : State :=
  let t := s.enterJoin
  s.finish (if sender = s.own then t.ownClash else t)

/-- WAKE_FRAME_RECEIVED (R26, R41, R168). -/
def execWakeFrameReceived (sender : Station) (s : State) : Host.Outcome State Fault Refusal :=
  .next (if s.station = .parked then s.wakeByFrame sender else s.hear true sender fun t => t.countMuted sender)

/-- OWN_NUMBER_FRAME (R9, R26); in PARKED only a WAKE is taken (R32, R168). -/
def execOwnNumberFrame (kind : FrameKind) (s : State) : Host.Outcome State Fault Refusal :=
  .next (if s.station = .parked ∧ kind = .wake then s.wakeByFrame s.own else s.hear true s.own id)

/-! ### Damaged frames -/

/-- ATTRIBUTED_BAD_FRAME (R25, R27): a key of 6 or 7 names no entry (R170). -/
def execAttributedBadFrame (key : Fin 8) (s : State) : Host.Outcome State Fault Refusal :=
  .next (if h : key.val < 6 then s.hear false ⟨key.val, h⟩ id else s)

/-- UNATTRIBUTED_BAD_FRAME (R28). -/
def execUnattributedBadFrame (s : State) : Host.Outcome State Fault Refusal :=
  .next (if s.station.onLine then s.finish s.badFrame else s)

/-! ### The stuck line -/

/-- Sending stops (R30): no attempt is on the line and no frame is committed; the attempt counts stay. -/
def LineInterface.stopSending (l : LineInterface) : LineInterface :=
  { l with
    attempt := none
    alerts := l.alerts.map fun q => { q with committed := false }
    directives := l.directives.map fun q => { q with committed := false }
    beacon := l.beacon.map fun q => { q with committed := false }
    wake := l.wake.map fun q => { q with committed := false } }

def State.setStuck (s : State) (c : StuckLine) : State := s.setLine { s.line with stuck := c }

/-- The line is stuck (R29): the condition begins and sending stops; in a condition that still holds the line
is stuck again and nothing is raised. -/
def State.stick (s : State) : State :=
  match s.line.stuck with
  | .clear => ((s.setLine s.line.stopSending).setStuck .stuck).raise stuckRaise
  | .released _ => s.setStuck .stuck
  | .stuck => s

/-- LINE_STUCK (R29, R30, R32). -/
def execLineStuck (s : State) : Host.Outcome State Fault Refusal :=
  .next (if s.station.onLine then s.finish s.stick else s)

/-- LINE_RELEASED (R29): one beacon period begins to run. -/
def execLineReleased (s : State) : Host.Outcome State Fault Refusal :=
  .next (if s.line.stuck = .stuck then s.setStuck (.released (periodMs s.config.period)) else s)

/-- The line has been released for one beacon period. -/
def State.released (s : State) : Bool :=
  match s.line.stuck with
  | .released _ => true
  | _ => false

/-- The condition goes and sending resumes (R29, R30). -/
def State.unstick (s : State) : State := (s.setStuck .clear).conditionGone stuckRaise.code

/-- LINE_STUCK_GONE (R29). -/
def execLineStuckGone (s : State) : Host.Outcome State Fault Refusal :=
  .next (if s.released then s.finish s.unstick else s)

end Sys2Proof.Machine
end

