-- ==== Sys2Proof/Machine/Clock.lean ====
section
/-! DEFINITION. One millisecond of the part's own clocks, which is what a step does when no command waits (DESIGN
CHOICE, log 1): the rise timers (R130), the supervision timer (R158), the stuck line's release (R29), the
beacon timer (R8) and the configuration window (R5), in this order, so that no timer counts the millisecond in
which it starts. -/

namespace Sys2Proof.Machine

/-- One millisecond of the supervision timer (R158). -/
def State.tickSupervision (s : State) : State :=
  if s.supervised then
    if s.supervision.count ≤ 1 then s.finish s.supervisionExpiry
    else s.setSupervision { s.supervision with count := s.supervision.count - 1 }
  else s

/-- The milliseconds left on a rise timer. -/
def State.riseLeft (s : State) : Ramp → Option Nat
  | .motoring => s.envelope.motoringTimer
  | .regen => s.envelope.regenTimer

/-- A rise timer with `n` milliseconds left. -/
def State.setRise (s : State) (r : Ramp) (n : Nat) : State :=
  match r with
  | .motoring => s.setEnvelope { s.envelope with motoringTimer := some n }
  | .regen => s.setEnvelope { s.envelope with regenTimer := some n }

/-- One millisecond of a rise timer (R130). -/
def State.tickRise (r : Ramp) (s : State) : State :=
  match s.riseLeft r with
  | some n => if n ≤ 1 then s.finish (s.rise r) else s.setRise r (n - 1)
  | none => s

/-- One millisecond since the release of a stuck line (R29). -/
def State.tickLine (s : State) : State :=
  match s.line.stuck with
  | .released n => if n ≤ 1 then s.finish s.unstick else s.setStuck (.released (n - 1))
  | _ => s

/-- One millisecond of the configuration window (R5). -/
def State.tickWindow (s : State) : State :=
  if s.station = .config then
    if s.start.window ≤ 1 then s.windowExpiry else s.setStart { s.start with window := s.start.window - 1 }
  else s

/-- One millisecond of the beacon timer (R8). -/
def State.tickBeacon (s : State) : State :=
  match s.start.beaconTimer with
  | some n => if n ≤ 1 then s.ownExpiry [] else s.setStart { s.start with beaconTimer := some (n - 1) }
  | none => s

/-- One millisecond passes. -/
def State.tick (s : State) : State :=
  ((s.tickRise .motoring).tickRise .regen).tickSupervision.tickLine.tickBeacon.tickWindow

end Sys2Proof.Machine
end

