-- ==== Sys2Proof/Machine/Dispatch.lean ====
section
/-! DEFINITION. Which meaning each command has: one arm per constructor of `Instr`. -/

namespace Sys2Proof.Machine

def exec (i : Instr) (s : State) : Host.Outcome State Fault Refusal :=
  match i with
  | .powerOn straps => Sys2Proof.Machine.execPowerOn straps s
  | .pin straps => Sys2Proof.Machine.execPin straps s
  | .configWindowExpiry => Sys2Proof.Machine.execConfigWindowExpiry s
  | .incompleteTransaction clocks => Sys2Proof.Machine.execIncompleteTransaction clocks s
  | .emptyRequest => Sys2Proof.Machine.execEmptyRequest s
  | .badRequest cause => Sys2Proof.Machine.execBadRequest cause s
  | .setup id value => Sys2Proof.Machine.execSetup id value s
  | .seal => Sys2Proof.Machine.execSeal s
  | .publish id value => Sys2Proof.Machine.execPublish id value s
  | .report code level fm fr measured => Sys2Proof.Machine.execReport code level fm fr measured s
  | .withdraw code => Sys2Proof.Machine.execWithdraw code s
  | .clear code => Sys2Proof.Machine.execClear code s
  | .query code part => Sys2Proof.Machine.execQuery code part s
  | .readView station part => Sys2Proof.Machine.execReadView station part s
  | .readEnvelope => Sys2Proof.Machine.execReadEnvelope s
  | .readStack part => Sys2Proof.Machine.execReadStack part s
  | .readCause => Sys2Proof.Machine.execReadCause s
  | .clearCause => Sys2Proof.Machine.execClearCause s
  | .refresh token => Sys2Proof.Machine.execRefresh token s
  | .rejoin => Sys2Proof.Machine.execRejoin s
  | .restart token straps => Sys2Proof.Machine.execRestart token straps s
  | .parkArm => Sys2Proof.Machine.execParkArm s
  | .parkEnter => Sys2Proof.Machine.execParkEnter s
  | .wakeRequest => Sys2Proof.Machine.execWakeRequest s
  | .ownBeaconExpiry later => Sys2Proof.Machine.execOwnBeaconExpiry later s
  | .entryToRun => Sys2Proof.Machine.execEntryToRun s
  | .clashAgeExpiry who => Sys2Proof.Machine.execClashAgeExpiry who s
  | .peerLoss who => Sys2Proof.Machine.execPeerLoss who s
  | .selfContainedCount who => Sys2Proof.Machine.execSelfContainedCount who s
  | .freshnessExpiry q => Sys2Proof.Machine.execFreshnessExpiry q s
  | .persistenceExpiry c => Sys2Proof.Machine.execPersistenceExpiry c s
  | .brakeThrottleCount => Sys2Proof.Machine.execBrakeThrottleCount s
  | .dwellEnd code => Sys2Proof.Machine.execDwellEnd code s
  | .releaseCountExpiry => Sys2Proof.Machine.execReleaseCountExpiry s
  | .rejoinTimeout => Sys2Proof.Machine.execRejoinTimeout s
  | .ceasePlaceExpiry who => Sys2Proof.Machine.execCeasePlaceExpiry who s
  | .readmitPlaceExpiry who => Sys2Proof.Machine.execReadmitPlaceExpiry who s
  | .supervisionExpiry => Sys2Proof.Machine.execSupervisionExpiry s
  | .riseTimerExpiry ramp => Sys2Proof.Machine.execRiseTimerExpiry ramp s
  | .tripArrival n => Sys2Proof.Machine.execTripArrival n s
  | .tripDeassert n => Sys2Proof.Machine.execTripDeassert n s
  | .attemptStart => Sys2Proof.Machine.execAttemptStart s
  | .lostContention => Sys2Proof.Machine.execLostContention s
  | .attemptSuccess => Sys2Proof.Machine.execAttemptSuccess s
  | .attemptFailure => Sys2Proof.Machine.execAttemptFailure s
  | .beaconReceived b => Sys2Proof.Machine.execBeaconReceived b s
  | .alertReceived a => Sys2Proof.Machine.execAlertReceived a s
  | .ceaseReceived c => Sys2Proof.Machine.execCeaseReceived c s
  | .readmitReceived r => Sys2Proof.Machine.execReadmitReceived r s
  | .wakeFrameReceived sender => Sys2Proof.Machine.execWakeFrameReceived sender s
  | .ownNumberFrame kind => Sys2Proof.Machine.execOwnNumberFrame kind s
  | .attributedBadFrame key => Sys2Proof.Machine.execAttributedBadFrame key s
  | .unattributedBadFrame => Sys2Proof.Machine.execUnattributedBadFrame s
  | .lineStuck => Sys2Proof.Machine.execLineStuck s
  | .lineStuckGone => Sys2Proof.Machine.execLineStuckGone s
  | .lineReleased => Sys2Proof.Machine.execLineReleased s

end Sys2Proof.Machine
end

