-- ==== Sys2Proof/Machine/Step.lean ====
section
/-! DEFINITION. One step: the command at the front of the queue; on an empty queue one millisecond of the part's
own clocks. -/

namespace Sys2Proof.Machine

/-- The queue with command `i` put at its front. -/
def State.push (s : State) (i : Instr) : State := { s with pending := i :: s.pending }

/-- One step (log 1 for the empty queue). -/
def step (s : State) : Host.Outcome State Fault Refusal :=
  match s.pending with
  | [] => .next s.tick
  | i :: rest => exec i { s with pending := rest }

/-- The command that a word spells put at the front of the queue; the state unchanged where the word spells
none, which is every word, since the opcode table gives no row any bits (log 27). -/
def State.withFetchWord (s : State) (nbits w : Nat) : State :=
  match decodeTableWord nbits w with
  | some i => s.push i
  | none => s

end Sys2Proof.Machine
end

