-- ==== Sys2Proof/Safety.lean ====
section
/-! DEFINITION. What counts as a safe run: the invariants of the part that statements speak of, each a law that a rule
of spec/ gives. Then the words the statements are made of: which blocks a command may
change, what a request leaves on the module link, and what the end of a handling hands over. -/

namespace Sys2Proof.Machine

/-! ### Outputs -/

/-- The pins show what the rest of the state gives (R110 to R116). -/
def PinsFollow (s : State) : Prop := s.pins = s.outputs

/-- ATTN's two conditions (R115). -/
def AttnDue (s : State) : Prop := (∃ r ∈ s.engine.records, r.unread = true) ∨ s.envelope.changed = true

/-- The pins `p` by the rows of R110, with R111 to R116 for RUN. -/
def OutputTable (s : State) (p : Pins) : Prop :=
  (s.station = .hold ∨ s.station = .config ∨ s.station = .join ∧ s.start.everRun = false →
    p = { gateKill := true, lamp := true, contactorHold := false, attn := false })
  ∧ (s.station = .join → s.start.everRun = true →
      p.gateKill = true ∧ p.lamp = true ∧ p.contactorHold = false ∧ (p.attn = true ↔ AttnDue s))
  ∧ (s.station = .run →
      (p.gateKill = true ↔
        s.isolation.own ≠ .active ∨ s.engine.cl = 7
          ∨ ∃ n : TripInput, s.trips.getLsbD n.val = true ∧ s.config.enables.getLsbD n.val = true)
      ∧ (p.lamp = true ↔ s.isolation.own ≠ .active ∨ s.engine.cl ≠ 0)
      ∧ (p.contactorHold = true ↔ s.start.straps.role = .pack ∧ s.engine.contactor ≠ .released)
      ∧ (p.attn = true ↔ AttnDue s))
  ∧ (s.station = .parking →
      p.gateKill = true ∧ p.lamp = true
        ∧ (p.contactorHold = true ↔ s.start.straps.role = .pack ∧ s.engine.contactor ≠ .released)
        ∧ (p.attn = true ↔ AttnDue s))
  ∧ (s.station = .parked →
      p.gateKill = true ∧ p.lamp = false ∧ p.contactorHold = false ∧ (p.attn = true ↔ AttnDue s))

/-! ### Module link -/

/-- Places of the response queue that are taken or promised: PARK-ENTER in flight promises one (R154,
R156). -/
def State.responsesOwed (s : State) : Nat :=
  s.link.responses.length + if s.station = .parking then 1 else 0

/-- The response queue never needs more than its two places (R154). -/
def ResponsesFit (s : State) : Prop := s.responsesOwed ≤ 2

/-! ### Line interface -/

/-- An attempt count of a queued frame (R23). -/
def AttemptLaw {α : Type} (q : Queued α) : Prop := 1 ≤ q.attempt ∧ q.attempt ≤ 3

/-- The attempt count of every queued frame is 1 to 3 (R23), also of the frames held if contention is lost. -/
def AttemptsFit (s : State) : Prop :=
  (∀ q ∈ s.line.alerts, AttemptLaw q) ∧ (∀ q ∈ s.line.directives, AttemptLaw q)
    ∧ (∀ q ∈ s.line.beacon, AttemptLaw q) ∧ (∀ q ∈ s.line.wake, AttemptLaw q)
    ∧ ∀ a ∈ s.line.attempt, (∀ q ∈ a.ifLost.alerts, AttemptLaw q) ∧ ∀ q ∈ a.ifLost.beacon, AttemptLaw q

/-! ### Envelope unit -/

/-- The targets are those of the inputs `x`, no output exceeds its target, and a rise timer runs exactly while
its output is below its target (R122, R123, R126, R127, R129, R130). -/
def EnvelopeFits (x : EnvelopeInputs) (e : Envelope) : Prop :=
  e.tm = x.motoringTarget ∧ e.tr = x.regenTarget ∧ e.om ≤ e.tm ∧ e.outr ≤ e.tr
    ∧ (e.motoringTimer.isSome ↔ e.om < e.tm) ∧ (e.regenTimer.isSome ↔ e.outr < e.tr)

/-- The envelope fits the inputs as they stand. -/
def EnvelopeLaw (s : State) : Prop := EnvelopeFits s.envelopeInputs s.envelope

/-! ### Peer view -/

/-- The own entry stays as a reset leaves it, and the own number stands neither in the rejoin queue nor in the
probation record (R33, R146). -/
def OwnEntryLaw (s : State) : Prop :=
  s.peer s.own = PeerEntry.initial ∧ s.own ∉ s.isolation.queue
    ∧ ∀ p ∈ s.isolation.probation, p.station ≠ s.own

/-- Every score stays within its range (R46). -/
def ScoresFit (s : State) : Prop := ∀ i, (s.peer i).score ≤ 255

/-! ### Quantity selector -/

/-- The own values are those of the role, in its order (R55), and the band is UNKNOWN while the speed check is
disputed or the served speed is unavailable (R70). -/
def SelectorLaw (s : State) : Prop :=
  s.selector.own.map OwnValue.quantity = s.start.straps.role.quantities
    ∧ (s.selector.speedDisputed = true ∨ s.selector.served.speed = none → s.selector.band = .unknown)

/-- In RUN and PARKING SPEED-UNKNOWN holds exactly while the served speed is unavailable (R67), CHARGE-INTERLOCK exactly
while the served charger quantity reads yes (R69). -/
def ConditionsLaw (s : State) : Prop :=
  s.station.riding = true →
    (s.selector.speedUnknown = true ↔ s.selector.served.speed = none)
      ∧ (s.selector.chargeHolds = true ↔ ∃ c ∈ s.selector.served.charger, c.value = 1)

/-! ### Containment engine -/

/-- CEASED's condition holds for as long as its record is present (R88). -/
def CeasedHolds (s : State) : Prop := ∀ r ∈ s.engine.records, r.code = 3 → r.life = .holds

/-- The frames, top first, are those of a stack whose CL is `cl`: each frame's level is the CL it was pushed
to, its saved level is the level beneath it, and levels rise (R96). -/
def StackShape (cl : Level) : List StackFrame → Prop
  | [] => cl = 0
  | f :: rest => f.level = cl ∧ f.saved < f.level ∧ StackShape f.saved rest

/-- The frame at the top is not spent (R97, R109). -/
def TopLive (l : List StackFrame) : Prop := ∀ f ∈ l.head?, f.spent = false

/-- The codes of the frames that are not spent. -/
def liveCodes (l : List StackFrame) : List Nat := (l.filter fun f => !f.spent).map StackFrame.code

/-- The fault table: codes ascending, so no two records of one code, and at most twelve in general slots
(R72). -/
def TableLaw (l : List Record) : Prop :=
  (l.map Record.code).Pairwise (· < ·) ∧ generalCount l ≤ Config.generalSlots

/-- A frame that is not spent belongs to the present record of its code, which is taken and has its level
(R96). -/
def FrameOwned (l : List Record) (f : StackFrame) : Prop :=
  ∃ r ∈ l, r.code = f.code ∧ r.taken = true ∧ r.level = f.level

/-- The laws of the fault table and the containment stack between handlings (R72, R92, R96, R97). -/
def EngineLaw (s : State) : Prop :=
  TableLaw s.engine.records
    ∧ StackShape s.engine.cl s.engine.stack
    ∧ TopLive s.engine.stack
    ∧ (liveCodes s.engine.stack).Nodup
    ∧ (∀ f ∈ s.engine.stack, f.spent = false → FrameOwned s.engine.records f)
    ∧ (∀ r ∈ s.engine.records, r.taken = true → r.code ∈ liveCodes s.engine.stack)
    ∧ ∀ r ∈ s.engine.records, r.level ≤ s.engine.cl

/-! ### Isolation unit -/

/-- The rejoin queue holds each peer once, and each is LOST, MUTED or in PROBATION; the peer in probation is
its head; no entry is in PROBATION but the one of the probation record (R146, R147). -/
def RejoinLaw (s : State) : Prop :=
  s.isolation.queue.Nodup
    ∧ (∀ i ∈ s.isolation.queue, (s.peer i).state.down = true)
    ∧ (∀ p ∈ s.isolation.probation,
        s.isolation.queue.head? = some p.station ∧ (s.peer p.station).state = .probation)
    ∧ ∀ i, (s.peer i).state = .probation → ∃ p ∈ s.isolation.probation, p.station = i

/-- The readmit-owed list holds each peer once, in ascending order, and every peer on it is LIVE or SUSPECT (R152). -/
def OwedLaw (s : State) : Prop :=
  s.isolation.owed.Pairwise (· < ·) ∧ ∀ i ∈ s.isolation.owed, (s.peer i).state.trusted = true

/-- Between handlings nothing is left to do of its own accord: the served values are those the sources give
(R59), and while a peer waits in the rejoin queue a probation runs (R146). -/
def Settled (s : State) : Prop :=
  s.resolved = s.selector.served ∧ (s.isolation.queue = [] ∨ s.isolation.probation.isSome = true)

/-! ### All of them -/

/-- The part is in order. -/
def InOrder (s : State) : Prop :=
  PinsFollow s ∧ ResponsesFit s ∧ AttemptsFit s ∧ EnvelopeLaw s ∧ OwnEntryLaw s ∧ ScoresFit s ∧ SelectorLaw s
    ∧ ConditionsLaw s ∧ EngineLaw s ∧ CeasedHolds s ∧ RejoinLaw s ∧ OwedLaw s ∧ Settled s

/-! ### What a command may change -/

/-- The blocks of the state, the queue of commands apart. -/
inductive Block where
  | start | config | line | peers | selector | isolation | engine | envelope | supervision | link
  | trips | pins
  deriving DecidableEq, Repr

/-- A block is the same in two states. -/
def SameBlock (s t : State) : Block → Prop
  | .start => t.start = s.start
  | .config => t.config = s.config
  | .line => t.line = s.line
  | .peers => t.peers = s.peers
  | .selector => t.selector = s.selector
  | .isolation => t.isolation = s.isolation
  | .engine => t.engine = s.engine
  | .envelope => t.envelope = s.envelope
  | .supervision => t.supervision = s.supervision
  | .link => t.link = s.link
  | .trips => t.trips = s.trips
  | .pins => t.pins = s.pins

/-- From `s` to `t` nothing changes outside the blocks of `l`; the waiting commands stay. -/
def OnlyChanges (l : List Block) (s t : State) : Prop :=
  t.pending = s.pending ∧ ∀ b : Block, b ∉ l → SameBlock s t b

/-! ### Requests -/

/-- The request that a command carries, a damaged transaction included (R153). -/
def requestOf : Instr → Option Request
  | .badRequest _ => some .bad
  | .setup _ _ => some .setup
  | .seal => some .seal
  | .publish _ _ => some .publish
  | .report _ _ _ _ _ => some .report
  | .withdraw _ => some .withdraw
  | .clear _ => some .clear
  | .query _ _ => some .query
  | .readView _ _ => some .readView
  | .readEnvelope => some .readEnvelope
  | .readStack _ => some .readStack
  | .readCause => some .readCause
  | .clearCause => some .clearCause
  | .refresh _ => some .refresh
  | .rejoin => some .rejoin
  | .restart _ _ => some .restart
  | .parkArm => some .parkArm
  | .parkEnter => some .parkEnter
  | .wakeRequest => some .wake
  | _ => none

/-- A request meets no rule but its own: no PARK-ENTER is in flight (R156), the station state takes it (R155)
and no first token stands (R159). -/
def Ready (q : Request) (s : State) : Prop :=
  s.station ≠ .parking ∧ q.takenIn s.station = true ∧ s.supervision.firstToken = false

/-- The bytes that the next complete transaction clocks out (R154). -/
def State.nextOut (s : State) : BitVec 64 :=
  match s.link.responses with
  | [] => emptyMarker
  | r :: _ => r.bytes

/-- The module link after a transaction whose request is answered at once with `r` (R154) and leaves the
restart acceptor ARMED or not (R162). -/
def State.linkAfter (s : State) (r : Response) (armed : Bool) : Link :=
  { responses := s.link.responses.tail ++ [r], restartArmed := armed, out := some s.nextOut }

/-- The request is answered `r` and does nothing else but return both acceptors to IDLE (R162, R163). -/
def State.answered (s : State) (r : Response) : State :=
  { s with start := { s.start with parkArmed := false }, link := s.linkAfter r false }

/-- From `s` to `t` a request was answered `r`: the response queue, the bytes clocked out and both acceptors
say so, and start control holds nothing else new. -/
def Answers (s t : State) (r : Response) : Prop :=
  t.start = { s.start with parkArmed := false } ∧ t.link = s.linkAfter r false

/-! ### What the end of a handling hands over (R105) -/

/-- The envelope after a handling: unchanged when no input changed (R123), else one recomputation from the
new inputs (R126 to R131). -/
def EnvelopeFollows (s t : State) : Prop :=
  t.envelope =
    if s.envelopeInputs = t.envelopeInputs then s.envelope
    else s.envelope.retarget t.envelopeInputs.motoringTarget t.envelopeInputs.regenTarget

/-- The suspension flag after a handling: it follows a CL that the handling changed (R151). -/
def SuspensionFollows (s t : State) : Prop :=
  t.isolation.suspended =
    if s.engine.cl = t.engine.cl then s.isolation.suspended else decide (6 ≤ t.engine.cl)

/-- The contactor sequence after a handling within one station state, taken from where `s` left it: only a
PACK in RUN or PARKING moves it, when CL or the drive condition changed (R116 to R121). -/
def ContactorFollows (s t : State) : Prop :=
  (t.engine.contactor, t.engine.releaseCount) =
    if s.start.straps.role = .pack ∧ s.station.riding = true
        ∧ (s.engine.cl ≠ t.engine.cl ∨ s.driveCondition ≠ t.driveCondition) then
      if t.engine.cl = 7 then
        match s.engine.contactor with
        | .held => if t.driveCondition then (.released, 0) else (.releasing, 0)
        | .releasing => (if t.driveCondition then .released else .releasing, s.engine.releaseCount)
        | .released => (.released, s.engine.releaseCount)
      else if s.engine.contactor = .held then (.held, s.engine.releaseCount)
      else (.held, 0)
    else (s.engine.contactor, s.engine.releaseCount)

/-- The handover of a handling within one station state (R105): pins, envelope in one recomputation (log 8), suspension
flag, contactor (a return from RELEASED to HELD takes its release count to 0, log 33). -/
def HandedOver (s t : State) : Prop :=
  PinsFollow t ∧ EnvelopeFollows s t ∧ SuspensionFollows s t ∧ ContactorFollows s t

/-! ### The fault table -/

/-- Every record but that of `code` is in the table as before. -/
def OtherRecords (code : Nat) (s t : State) : Prop := ∀ c, c ≠ code → t.record c = s.record c

/-- CL and the stack after the raise of a record of `code` at `level` that was absent (R93): a level above CL
is taken, any other waits. -/
def TakenOrWaits (code : Nat) (level : Level) (s t : State) : Prop :=
  if s.engine.cl < level then
    t.engine.cl = level
      ∧ t.engine.stack = { saved := s.engine.cl, code := code, level := level, spent := false }
          :: s.engine.stack
  else t.engine.cl = s.engine.cl ∧ t.engine.stack = s.engine.stack

/-- The record of `code` as its condition ends (R80): a record whose condition held latches at level 5 or more
and dwells four own periods below; any other is as it was; CL and the stack stay. -/
def ConditionEnds (code : Nat) (s t : State) : Prop :=
  OtherRecords code s t ∧ t.engine.cl = s.engine.cl ∧ t.engine.stack = s.engine.stack
    ∧ t.record code = (s.record code).map fun r =>
        if r.life = .holds then { r with life := if 5 ≤ r.level then .latched else .dwell 4 } else r

/-- SUPERVISION raised by the timer (R87, R158): created latched at level 7 under the strict flag, else at 6
with regen fraction 128; a record present is re-raised and keeps its level. -/
def SupervisionRaised (s t : State) : Prop :=
  OtherRecords 2 s t
    ∧ match s.record 2 with
      | none =>
        t.record 2 = some
            { code := 2, level := if s.supervision.strict then 7 else 6, fm := 0,
              fr := if s.supervision.strict then 0 else 128, life := .latched,
              taken := decide (s.engine.cl < if s.supervision.strict then 7 else 6), count := 1,
              firstSeen := s.engine.beaconCount, unread := true, measured := none, detect := none,
              folded := none, param := none }
          ∧ TakenOrWaits 2 (if s.supervision.strict then 7 else 6) s t
      | some r =>
        t.record 2 = some { r with count := min 255 (r.count + 1), unread := true, life := .latched }
          ∧ t.engine.cl = s.engine.cl ∧ t.engine.stack = s.engine.stack

/-- HARD-TRIP raised for an arrival at input `n` (R86): created at level 7, or re-raised with the input's
detect flag added. -/
def HardTripRaised (n : TripInput) (s t : State) : Prop :=
  OtherRecords 1 s t
    ∧ match s.record 1 with
      | none =>
        t.record 1 = some
            { code := 1, level := 7, fm := 0, fr := 0, life := .holds,
              taken := decide (s.engine.cl < 7), count := 1, firstSeen := s.engine.beaconCount,
              unread := true, measured := none, detect := some (1#4 <<< n.val), folded := none,
              param := none }
          ∧ TakenOrWaits 1 7 s t
      | some r =>
        t.record 1 = some
            { r with count := min 255 (r.count + 1), unread := true, life := .holds,
                     detect := some (r.detect.getD 0#4 ||| 1#4 <<< n.val) }
          ∧ t.engine.cl = s.engine.cl ∧ t.engine.stack = s.engine.stack

/-- The record of `code` is gone; every other record is in the table as before but for its taken mark, which a
retaking may set; CL is the highest level left (R82, R92, R97 to R99). -/
def RecordGone (code : Nat) (s t : State) : Prop :=
  t.record code = none
    ∧ (∀ c, c ≠ code →
        (t.record c).map (fun r => { r with taken := false })
          = (s.record c).map fun r => { r with taken := false })
    ∧ t.engine.cl = highestLevel t.engine.records

/-- The ALERT of a record of `code` taken at `level` (R18, R102): of local origin and of level 4 or more it joins
the alert queue with the own level after the taking; of any other the line is as it was. -/
def AlertGiven (code : Nat) (level : Level) (s t : State) : Prop :=
  t.line =
    if isLocal code = true ∧ 4 ≤ level then
      s.line.hold fun h =>
        { h with
          alerts := placeAlert
            { sender := s.own, ownLevel := t.ownLevel, claim := { code := code, level := level } } h.alerts }
    else s.line

/-- CL and the stack that the removal of the record of `code` uncovers (R97, R98): its frame at the top goes with
the spent frames beneath it, deeper down it is marked spent, and a record that waited owns none. -/
def uncovered (code : Nat) (s : State) : Level × List StackFrame :=
  match s.engine.stack with
  | [] => (s.engine.cl, [])
  | f :: rest =>
    if f.code = code ∧ f.spent = false then
      (((rest.takeWhile StackFrame.spent).getLastD f).saved, rest.dropWhile StackFrame.spent)
    else
      (s.engine.cl, (f :: rest).map fun g =>
        if g.code = code ∧ g.spent = false then { g with spent := true } else g)

/-- The records that wait above the uncovered CL once the record of `code` is gone (R99). -/
def waitingAbove (code : Nat) (s : State) : List Record :=
  s.engine.records.filter fun r =>
    decide (r.code ≠ code ∧ r.taken = false ∧ (uncovered code s).1 < r.level)

/-- The stack after the removal of the record of `code` (R97 to R99): as uncovered when no record waits above;
else the waiting record of the highest level, then of the lowest code, is taken on top of it. -/
def Unwound (code : Nat) (s t : State) : Prop :=
  (waitingAbove code s = [] →
    t.engine.cl = (uncovered code s).1 ∧ t.engine.stack = (uncovered code s).2
      ∧ OtherRecords code s t ∧ t.line = s.line)
  ∧ ∀ w ∈ waitingAbove code s,
      (∀ x ∈ waitingAbove code s, x.level < w.level ∨ x.level = w.level ∧ w.code ≤ x.code) →
      t.engine.cl = w.level
        ∧ t.engine.stack =
            { saved := (uncovered code s).1, code := w.code, level := w.level, spent := false }
              :: (uncovered code s).2
        ∧ t.record w.code = some { w with taken := true }
        ∧ (∀ c, c ≠ code → c ≠ w.code → t.record c = s.record c)
        ∧ AlertGiven w.code w.level s t

/-- A record raised by the part itself, which was absent and for which a slot is free: created with these
fields (R76), other records as before, taken or waiting by R93. -/
def PartRaised (a : Raise) (s t : State) : Prop :=
  t.record a.code = some
      { code := a.code, level := a.level, fm := a.fm, fr := a.fr, life := .holds,
        taken := decide (s.engine.cl < a.level), count := 1, firstSeen := s.engine.beaconCount,
        unread := true, measured := a.measured, detect := none, folded := none, param := a.param }
    ∧ OtherRecords a.code s t ∧ TakenOrWaits a.code a.level s t

/-! ### Records of conditions -/

/-- A record apart from its taken mark, which a retaking may set. -/
def untaken (r : Option Record) : Option Record := r.map fun x => { x with taken := false }

/-- The record that the raise `a` creates (R76), first seen at the own beacon count of `t`. -/
def createdBy (a : Raise) (t : State) : Record :=
  { code := a.code, level := a.level, fm := a.fm, fr := a.fr, life := .holds, taken := false, count := 1
    firstSeen := t.engine.beaconCount, unread := true, measured := a.measured, detect := none, folded := none
    param := a.param }

/-- The absent record of a condition has been created, or found every general slot occupied (R76). -/
def RecordCreated (a : Raise) (t : State) : Prop :=
  untaken (t.record a.code) = some (createdBy a t) ∨ t.generalFull = true ∧ t.record a.code = none

/-- A condition has begun (R76, R77, R89): its absent record is created, or folded where every general slot is
occupied; a record present is re-raised, by so many raises. -/
def RecordRaised (raises : Nat) (a : Raise) (s t : State) : Prop :=
  match s.record a.code with
  | none =>
    untaken (t.record a.code) = some { createdBy a t with count := raises }
      ∨ t.generalFull = true ∧ t.record a.code = none ∧ (t.record 4).isSome = true
  | some r =>
    untaken (t.record a.code) = some
      { r with
        count := min 255 (r.count + raises), unread := true, life := .holds, taken := false, param := a.param }

/-- A condition has ended (R80): a record that held latches at level 5 or more and dwells below; any other stays. -/
def RecordEnds (code : Nat) (s t : State) : Prop :=
  untaken (t.record code) = (s.record code).map fun r =>
    { r with
      taken := false
      life := if r.life = .holds then if 5 ≤ r.level then .latched else .dwell 4 else r.life }

/-- The record of `code` stays as it is. -/
def RecordStays (code : Nat) (s t : State) : Prop := untaken (t.record code) = untaken (s.record code)

/-- The record of the raise `a` follows a condition that held in `s` or not and holds in `t` or not. -/
def RecordFollows (held now : Bool) (a : Raise) (s t : State) : Prop :=
  if held = now then RecordStays a.code s t
  else if now = true then RecordRaised 1 a s t
  else RecordEnds a.code s t

/-- The records of SPEED-UNKNOWN and CHARGE-INTERLOCK follow their conditions (R67, R69). -/
def SelectorRecords (s t : State) : Prop :=
  RecordFollows s.selector.speedUnknown t.selector.speedUnknown { code := 57, level := 5, fm := 256, fr := 256 } s t
    ∧ RecordFollows s.selector.chargeHolds t.selector.chargeHolds { code := 59, level := 6, fm := 0, fr := 0 } s t

/-! ### Resets -/

/-- A reset that read `straps` leaves these values in every block but the module link and the cause record (R1 to
R3, R9, R11, R12, R17, R18, R24, R28, R29, R33, R55, R58, R61, R72, R92, R96, R116, R122, R134, R158, R163). -/
def ResetValues (straps : Straps) (t : State) : Prop :=
  t.start =
      { station := if straps.number.val < 6 then .config else .hold
        straps := straps, everRun := false, discovery := 0, population := t.start.population
        missingHeld := false, conflictHeld := false, cause := t.start.cause
        window := if straps.number.val < 6 then 200 else 0
        beaconTimer := none, parkArmed := false }
    ∧ (∀ i, t.start.population.get i =
        { role := if i.val = straps.number.val then some straps.role else none, clash := 0 })
    ∧ t.config =
        { sealed := false, period := .ms10, lossLimit := 6, muteHold := 32, quorum := 2,
          nominalMotoring := 480, nominalRegen := 120, motoringRise := 8, regenRise := 4,
          fallbackDischarge := 160, walk := 60, cruise := 200, reload := 50,
          startMode := .onFirstRefresh, strict := false, enables := 15#4 }
    ∧ t.line =
        { alerts := [], directives := [], beacon := none, parkingWaiting := none, wake := none,
          attempt := none, sequence := 0, txFailures := 0, lineErrors := 0, degraded := false,
          stuck := .clear }
    ∧ (∀ i, t.peer i =
        { state := .absent, published := none, lastSeq := 0, heard := false, age := 0, score := 0,
          period := none, ownLevel := 0, posture := none, cl := 0
          flags := { joining := false, rejoin := false, isolated := false, parking := false }
          claims := [], selfCount := 0, ceasePending := false, muteReason := none, muteHold := none
          frames := 0, downCause := .lost })
    ∧ t.selector =
        { own := straps.role.quantities.map fun q =>
            { quantity := q, value := if q = .brake ∨ q = .charger then 1 else 0, valid := false, fresh := 0 }
          served :=
            { packVoltage := none
              discharge := some { value := 160, source := none, rank := .fallback }
              acceptance := some { value := 0, source := none, rank := .fallback }
              contactor := some { value := 0, source := none, rank := .fallback }
              speed := none
              throttle := some { value := 0, source := none, rank := .fallback }
              brake := some { value := 1, source := none, rank := .fallback }
              charger := some { value := 0, source := none, rank := .fallback } }
          band := .unknown, speedCount := 0, voltageCount := 0, speedDisputed := false
          voltageDisputed := false, brakeCount := 0, brakeHolds := false, speedUnknown := false
          chargeHolds := false }
    ∧ t.isolation =
        { own := .active, cease := [], readmit := [], rejoinTimer := none, queue := [], probation := none,
          suspended := false, owed := [] }
    ∧ t.engine =
        { records := [], stack := [], cl := 0, beaconCount := 0, contactor := .released, releaseCount := 0 }
    ∧ t.envelope =
        { tm := 0, tr := 0, om := 0, outr := 0, motoringTimer := none, regenTimer := none, changed := false }
    ∧ t.supervision = { running := false, count := 0, firstToken := false, errors := 0, strict := false }
    ∧ t.pins = { gateKill := true, lamp := true, contactorHold := false, attn := false }

/-! ### Band -/

/-- The band worked out afresh from the band held, the speed check not being disputed (R70, R71). -/
def bandFrom (c : ConfigSet) (held : Band) (speed : Option Served) : Band :=
  match speed with
  | none => .unknown
  | some v => bandAt c.walk c.cruise held v.value

/-- The band after a handling that leaves the speed check as it is (R70): it stays where the served speed and its
source stay, and is worked out afresh where one of them changed. -/
def BandFollows (s t : State) : Prop :=
  t.selector.band =
    if t.selector.served.speed = s.selector.served.speed then s.selector.band
    else if s.selector.speedDisputed = true then .unknown
    else bandFrom s.config s.selector.band t.selector.served.speed

/-! ### Entry to JOIN -/

/-- The selector after an entry to JOIN (R61, R70): persistence and brake-throttle count reset, and the band worked
out afresh where the speed check ceases to be disputed. -/
def joined (c : ConfigSet) (x : Selector) : Selector :=
  { x with
    speedCount := 0, voltageCount := 0, speedDisputed := false, voltageDisputed := false, brakeCount := 0
    band := if x.speedDisputed then bandFrom c x.band x.served.speed else x.band }

/-! ### The seal -/

/-- The enabled trip inputs that are asserted. -/
def State.trippedInputs (s : State) : BitVec 4 := s.trips &&& s.config.enables

/-- What the seal does (R7), the sealing request's own traces apart: the set is sealed with W at most C, JOIN
begins, and each enabled input asserted is an arrival. -/
def Sealed (s t : State) : Prop :=
  OnlyChanges [.start, .config, .line, .peers, .selector, .isolation, .engine, .supervision, .link, .pins] s t
    ∧ t.start =
        { s.start with
          station := .join, window := 0, discovery := 0,
          beaconTimer := some (periodMs s.config.period), parkArmed := t.start.parkArmed }
    ∧ t.config = { s.config with sealed := true, walk := min s.config.walk s.config.cruise }
    ∧ t.supervision = { s.supervision with strict := s.config.strict }
    ∧ (∀ i, t.peer i = { s.peer i with heard := false })
    ∧ t.selector = joined t.config s.selector
    ∧ (if s.trippedInputs = 0#4 then
        t.engine = s.engine ∧ t.line = s.line ∧ t.isolation = s.isolation
      else
        t.record 1 = some
            { code := 1, level := 7, fm := 0, fr := 0, life := .holds, taken := true,
              count := ([0, 1, 2, 3].filter fun n => s.trippedInputs.getLsbD n).length,
              firstSeen := s.engine.beaconCount, unread := true, measured := none,
              detect := some s.trippedInputs, folded := none, param := none }
          ∧ OtherRecords 1 s t ∧ TakenOrWaits 1 7 s t
          ∧ AlertGiven 1 7 s t ∧ t.ownLevel = 7
          ∧ t.isolation = { s.isolation with suspended := true })
    ∧ PinsFollow t

/-! ### Time -/

/-- No timer of the part ends within the next millisecond. -/
def NoTimerEnds (s : State) : Prop :=
  (s.supervised = true → 2 ≤ s.supervision.count)
    ∧ (∀ n ∈ s.envelope.motoringTimer, 2 ≤ n)
    ∧ (∀ n ∈ s.envelope.regenTimer, 2 ≤ n)
    ∧ (∀ n, s.line.stuck = .released n → 2 ≤ n)
    ∧ (∀ n ∈ s.start.beaconTimer, 2 ≤ n)
    ∧ (s.station = .config → 2 ≤ s.start.window)

/-- One millisecond later with no timer ended: each running timer is one lower (log 1). -/
def oneMillisecond (s : State) : State :=
  { s with
    supervision :=
      if s.supervised then { s.supervision with count := s.supervision.count - 1 } else s.supervision
    envelope :=
      { s.envelope with
        motoringTimer := s.envelope.motoringTimer.map fun n => n - 1
        regenTimer := s.envelope.regenTimer.map fun n => n - 1 }
    line :=
      { s.line with stuck := match s.line.stuck with | .released n => .released (n - 1) | x => x }
    start :=
      { s.start with
        beaconTimer := s.start.beaconTimer.map fun n => n - 1
        window := if s.station = .config then s.start.window - 1 else s.start.window } }

/-! ### Operands -/

/-- `v` taken to the nearest limit of a range. -/
def within (low high v : Nat) : Nat := if v < low then low else if high < v then high else v

/-- The table of R3: for each identifier the value held after SETUP, and the parameter that holds it; 15 and above
are not assigned. The trip enables are the low four bits of the value. -/
def ParameterTable : Prop :=
  ∀ (c : ConfigSet) (v : Nat),
    (v ≤ 7 → clampParameter 0 v = some 5) ∧ (8 ≤ v → v ≤ 14 → clampParameter 0 v = some 10)
    ∧ (15 ≤ v → clampParameter 0 v = some 20)
    ∧ storeParameter c 0 5 = { c with period := .ms5 } ∧ storeParameter c 0 10 = { c with period := .ms10 }
    ∧ storeParameter c 0 20 = { c with period := .ms20 }
    ∧ clampParameter 1 v = some (within 4 15 v) ∧ storeParameter c 1 v = { c with lossLimit := v }
    ∧ clampParameter 2 v = some (within 8 255 v) ∧ storeParameter c 2 v = { c with muteHold := v }
    ∧ clampParameter 3 v = some (within 1 2 v) ∧ storeParameter c 3 v = { c with quorum := v }
    ∧ clampParameter 4 v = some (within 0 1023 v) ∧ storeParameter c 4 v = { c with nominalMotoring := v }
    ∧ clampParameter 5 v = some (within 0 1023 v) ∧ storeParameter c 5 v = { c with nominalRegen := v }
    ∧ clampParameter 6 v = some (within 1 64 v) ∧ storeParameter c 6 v = { c with motoringRise := v }
    ∧ clampParameter 7 v = some (within 1 64 v) ∧ storeParameter c 7 v = { c with regenRise := v }
    ∧ clampParameter 8 v = some (within 0 1023 v) ∧ storeParameter c 8 v = { c with fallbackDischarge := v }
    ∧ clampParameter 9 v = some (within 10 1000 v) ∧ storeParameter c 9 v = { c with walk := v }
    ∧ clampParameter 10 v = some (within 10 1000 v) ∧ storeParameter c 10 v = { c with cruise := v }
    ∧ clampParameter 11 v = some (within 10 250 v) ∧ storeParameter c 11 v = { c with reload := v }
    ∧ clampParameter 12 v = some (within 0 1 v)
    ∧ storeParameter c 12 0 = { c with startMode := .auto }
    ∧ storeParameter c 12 1 = { c with startMode := .onFirstRefresh }
    ∧ clampParameter 13 v = some (within 0 1 v)
    ∧ storeParameter c 13 0 = { c with strict := false } ∧ storeParameter c 13 1 = { c with strict := true }
    ∧ clampParameter 14 v = some v ∧ storeParameter c 14 v = { c with enables := BitVec.ofNat 4 v }
    ∧ ∀ id, 15 ≤ id → clampParameter id v = none

/-- The table of R55 and the clamps of R56: the quantity of each identifier, and the value PUBLISH stores. -/
def QuantityTable : Prop :=
  ∀ v : Nat,
    quantityOf 0 = some .packVoltage ∧ clampPublished .packVoltage v = within 0 1500 v
    ∧ quantityOf 1 = some .dischargeLimit ∧ clampPublished .dischargeLimit v = within 0 1023 v
    ∧ quantityOf 2 = some .regenAcceptance ∧ clampPublished .regenAcceptance v = within 0 1023 v
    ∧ quantityOf 3 = some .contactorState ∧ clampPublished .contactorState v = (if v ≤ 1 then v else 0)
    ∧ quantityOf 4 = some .driveSpeed ∧ clampPublished .driveSpeed v = within 0 1000 v
    ∧ quantityOf 5 = some .linkVoltage ∧ clampPublished .linkVoltage v = within 0 1500 v
    ∧ quantityOf 6 = some .wheelSpeed ∧ clampPublished .wheelSpeed v = within 0 1000 v
    ∧ quantityOf 7 = some .throttle ∧ clampPublished .throttle v = within 0 1000 v
    ∧ quantityOf 8 = some .brake ∧ clampPublished .brake v = (if v ≤ 1 then v else 1)
    ∧ quantityOf 9 = some .charger ∧ clampPublished .charger v = (if v ≤ 1 then v else 1)
    ∧ ∀ id, 10 ≤ id → quantityOf id = none

/-- The clamps of R78: a level of 0 is taken as 1 and one above 7 as 7, a fraction above 256 as 256, and CLAMPED
says that one of the three was brought into range. -/
def ReportClamps (level : BitVec 4) (fm fr : BitVec 9) : Prop :=
  (clampLevel level).val = within 1 7 level.toNat
    ∧ reportClamped level fm fr =
        decide (level.toNat < 1 ∨ 7 < level.toNat ∨ 256 < fm.toNat ∨ 256 < fr.toNat)

/-! ### Sources -/

/-- The quantities that a beacon of each role carries (R55, R169). -/
def carriedBy : Published → List (Quantity × Valued)
  | .pack v d a c => [(.packVoltage, v), (.dischargeLimit, d), (.regenAcceptance, a), (.contactorState, c)]
  | .drive v l => [(.driveSpeed, v), (.linkVoltage, l)]
  | .cockpit w t b => [(.wheelSpeed, w), (.throttle, t), (.brake, b)]
  | .charger c => [(.charger, c)]

/-- What station `i` serves of quantity `q` (R59): the own station its own value, a LIVE or SUSPECT peer what its last
stored beacon holds, each while it is valid. -/
def offered (s : State) (q : Quantity) (i : Station) : Option Nat :=
  if i = s.own then
    ((s.selector.own.find? fun x => x.quantity == q).filter OwnValue.valid).map OwnValue.value
  else if (s.peer i).state = .live ∨ (s.peer i).state = .suspect then
    (s.peer i).published.bind fun p => (((carriedBy p).lookup q).filter Valued.valid).map Valued.value
  else none

/-- The lowest-numbered station that serves `q`, as a source of the given rank (R58). -/
def lowest (s : State) (q : Quantity) (rank : Rank) : Option Served :=
  [0, 1, 2, 3, 4, 5].findSome? fun i =>
    (offered s q i).map fun x => { value := x, source := some i, rank := rank }

/-- A fallback of the source table (R58). -/
def fallback (x : Nat) : Option Served := some { value := x, source := none, rank := .fallback }

/-- The source table, row by row (R58, R59); charger connected reads yes while any serving CHARGER reports yes.
The fallback of the discharge limit is the parameter as it stands, before the seal too (log 38). -/
def sourceTable (s : State) : ServedValues :=
  { packVoltage := (lowest s .packVoltage .primary).or (lowest s .linkVoltage .secondary)
    discharge := (lowest s .dischargeLimit .primary).or (fallback s.config.fallbackDischarge)
    acceptance := (lowest s .regenAcceptance .primary).or (fallback 0)
    contactor := (lowest s .contactorState .primary).or (fallback 0)
    speed := (lowest s .driveSpeed .primary).or (lowest s .wheelSpeed .secondary)
    throttle := (lowest s .throttle .primary).or (fallback 0)
    brake := (lowest s .brake .primary).or (fallback 1)
    charger :=
      (([0, 1, 2, 3, 4, 5].find? fun i => decide (offered s .charger i = some 1)).map fun i =>
          { value := 1, source := some i, rank := .primary }).or
        ((lowest s .charger .primary).or (fallback 0)) }

/-! ### Payloads of the reads -/

/-- A number of `n` bits in which fields, each a width and a value, stand one after another from the most significant
bit downward; the bits that no field uses are 0 (R171, R172). -/
def placed : Nat → List (Nat × Nat) → Nat
  | _, [] => 0
  | n, (w, x) :: rest => x % 2 ^ w * 2 ^ (n - w) + placed (n - w) rest

/-- The payload of 48 bits that holds these fields. -/
def payloadOf (fields : List (Nat × Nat)) : BitVec 48 := BitVec.ofNat 48 (placed 48 fields)

def bitOf (b : Bool) : Nat × Nat := (1, if b then 1 else 0)

/-- A named value in a field of width `w`: its place in the order in which R169 codes the values from 0. -/
def codedIn {α : Type} [BEq α] (w : Nat) (order : List α) (x : α) : Nat × Nat := (w, order.idxOf x)

/-- A named value in a field of a view, whose highest code says that there is no value (R169). -/
def codedOr {α : Type} [BEq α] (w : Nat) (order : List α) (x : Option α) : Nat × Nat :=
  match x with
  | some y => codedIn w order y
  | none => (w, 2 ^ w - 1)

def postureOrder : List Posture := [.normal, .trim, .limp, .crawl, .coast, .safeStop, .isolated]

/-- The fields of READ-ENVELOPE (R132, R172). -/
def envelopeRead (s : State) : List (Nat × Nat) :=
  [(10, s.envelope.tm), (10, s.envelope.tr), (10, s.envelope.om), (10, s.envelope.outr),
    codedIn 2 [Band.walk, .mid, .fast, .unknown] s.selector.band, codedIn 3 postureOrder s.posture]

/-- The fields of READ-CAUSE (R171): POWER-ON, PIN and RESTART in bits 0, 1 and 2 of byte 1. -/
def causeRead (c : Cause) : List (Nat × Nat) := [(5, 0), bitOf c.restart, bitOf c.pin, bitOf c.powerOn]

/-- The code of a record's origin (R74, R169). -/
def originCode (code : Nat) : Nat :=
  if code = 1 then 0 else if code = 2 then 1 else if code = 3 then 2
  else if 8 ≤ code ∧ code ≤ 23 then 3 else if code = 4 then 5 else 4

/-- The fields of part 0 of a QUERY (R172). -/
def queryRead0 (r : Record) : List (Nat × Nat) :=
  [(6, r.code), (3, originCode r.code), (3, r.level.val),
    (2, match r.life with | .holds => if r.taken then 1 else 0 | .dwell _ => 2 | .latched => 3),
    bitOf r.taken, (9, r.fm), (9, r.fr), (3, match r.life with | .dwell n => n | _ => 0), (8, r.count)]

/-- The optional field of a record (R73, R172). A synthetic parameter stands in its upper bits (log 18). -/
def optionalOf (r : Record) : Option Nat :=
  (((r.measured.map BitVec.toNat).or (r.detect.map BitVec.toNat)).or r.folded).or
    (r.param.map fun p =>
      p.station.val * 2 ^ 13
        + (match p.cause with
          | some c => [DownCause.lost, .restarted, .muted, .probation].idxOf c
          | none => 0) * 2 ^ 11)

/-- The fields of part 1 of a QUERY (R172). -/
def queryRead1 (r : Record) : List (Nat × Nat) :=
  [(16, r.firstSeen.toNat), bitOf (optionalOf r).isSome, (16, (optionalOf r).getD 0)]

/-- Frame `n` of the stack, counted from the bottom from 0 (R108, R172). -/
def frameRead (s : State) (n : Nat) : List (Nat × Nat) :=
  match s.engine.stack.reverse[n]? with
  | some f => [(3, f.saved.val), (6, f.code), (3, f.level.val), bitOf f.spent]
  | none => [(3, 0), (6, 0), (3, 0), (1, 0)]

/-- The fields of READ-STACK by part (R108, R172). -/
def stackRead (s : State) : Nat → Option (List (Nat × Nat))
  | 0 =>
    some [(3, s.engine.cl.val), (3, s.ownLevel.val), codedIn 3 postureOrder s.posture,
      (3, s.engine.stack.length), (9, s.fmMin), (9, s.frMin)]
  | 1 => some (frameRead s 0 ++ frameRead s 1 ++ frameRead s 2)
  | 2 => some (frameRead s 3 ++ frameRead s 4 ++ frameRead s 5)
  | 3 => some (frameRead s 6)
  | _ => none

/-- The width of a quantity's value in a beacon (R170). -/
def widthOf : Quantity → Nat
  | .packVoltage | .linkVoltage => 11
  | .dischargeLimit | .regenAcceptance | .driveSpeed | .wheelSpeed | .throttle => 10
  | .contactorState | .brake | .charger => 1

/-- The fields of READ-VIEW of peer `i` by part (R157, R172). -/
def peerRead (s : State) (i : Station) : Nat → Option (List (Nat × Nat))
  | 0 =>
    some
      [codedIn 3 [EntryState.absent, .live, .suspect, .lost, .parked, .muted, .probation] (s.peer i).state,
        codedOr 3 [Role.pack, .drive, .cockpit, .charger] ((s.peer i).published.map Published.role),
        (4, (s.peer i).lastSeq.val), bitOf (s.peer i).heard, (4, (s.peer i).age), (8, (s.peer i).score),
        codedOr 2 [Period.ms5, .ms10, .ms20] (s.peer i).period, (3, (s.peer i).ownLevel.val),
        codedOr 3 postureOrder (s.peer i).posture, (3, (s.peer i).cl.val),
        bitOf (s.peer i).flags.joining, bitOf (s.peer i).flags.rejoin, bitOf (s.peer i).flags.isolated,
        bitOf (s.peer i).flags.parking, bitOf (s.peer i).ceasePending,
        codedIn 2 [none, some MuteReason.score, some .selfContained] (s.peer i).muteReason,
        (3, (s.peer i).claims.length)]
  | 1 =>
    some
      ([(8, (s.peer i).selfCount), (8, (s.peer i).muteHold.getD 0), (8, (s.peer i).frames)]
        ++ match s.isolation.probation.filter fun p => decide (p.station = i) with
          | some p => [(4, p.clean), (2, match p.origin with | .muted => 1 | .lost => 2)]
          | none => [(4, 0), (2, 0)])
  | 2 =>
    some
      ([0, 1, 2, 3].flatMap fun n =>
        match (s.peer i).claims[n]? with
        | some c => [(6, c.code), (3, c.level.val)]
        | none => [(6, 0), (3, 0)])
  | 3 =>
    some
      (match (s.peer i).published with
      | some p => (carriedBy p).flatMap fun x => [bitOf x.2.valid, (widthOf x.1, x.2.value)]
      | none => [])
  | _ => none

/-- A served quantity in the own view; one that is unavailable, and the source of a fallback, are 0 (R172; log 18). -/
def servedRead (x : Option Served) : List (Nat × Nat) :=
  match x with
  | some v =>
    [bitOf false, (11, v.value), (3, (v.source.map Fin.val).getD 0),
      codedIn 2 [Rank.primary, .secondary, .fallback] v.rank]
  | none => [bitOf true, (11, 0), (3, 0), (2, 0)]

/-- Own value `n`, in identifier order from 0 (R172). -/
def ownValueRead (s : State) (n : Nat) : List (Nat × Nat) :=
  match s.selector.own[n]? with
  | some v => [bitOf v.valid, (11, v.value), (3, v.fresh)]
  | none => [(1, 0), (11, 0), (3, 0)]

/-- The fields of READ-VIEW of the own number by part (R60, R134, R157, R172). -/
def ownRead (s : State) : Nat → Option (List (Nat × Nat))
  | 0 => some (servedRead s.selector.served.packVoltage ++ servedRead s.selector.served.discharge)
  | 1 => some (servedRead s.selector.served.acceptance ++ servedRead s.selector.served.contactor)
  | 2 => some (servedRead s.selector.served.speed ++ servedRead s.selector.served.throttle)
  | 3 => some (servedRead s.selector.served.brake ++ servedRead s.selector.served.charger)
  | 4 => some (ownValueRead s 0 ++ ownValueRead s 1 ++ ownValueRead s 2)
  | 5 => some (ownValueRead s 3 ++ ownValueRead s 4 ++ ownValueRead s 5)
  | 6 =>
    some
      ([codedIn 2 [IsolationState.active, .isolated, .rejoining] s.isolation.own,
          bitOf s.isolation.rejoinTimer.isSome, (7, s.isolation.rejoinTimer.getD 0), bitOf s.isolation.suspended,
          bitOf s.selector.speedDisputed, bitOf s.selector.voltageDisputed, (3, s.isolation.queue.length)]
        ++ ([0, 1, 2, 3, 4].map fun n => (3, (s.isolation.queue[n]?.map Fin.val).getD 0))
        ++ (match s.isolation.probation with
          | some p => [bitOf true, (3, p.station.val), codedIn 1 [Origin.muted, .lost] p.origin, (4, p.clean)]
          | none => [bitOf false, (3, 0), (1, 0), (4, 0)])
        ++ [5, 4, 3, 2, 1, 0].map fun i => bitOf (decide (i ∈ s.isolation.owed)))
  | 7 =>
    some
      ((3, s.isolation.cease.length) :: [0, 1, 2, 3, 4].flatMap fun n =>
        match s.isolation.cease[n]? with
        | some p => [(3, p.sender.val), (4, p.age), codedIn 1 [MuteReason.score, .selfContained] p.reason]
        | none => [(3, 0), (4, 0), (1, 0)])
  | 8 =>
    some
      ((3, s.isolation.readmit.length) :: [0, 1, 2, 3, 4].flatMap fun n =>
        match s.isolation.readmit[n]? with
        | some p => [(3, p.sender.val), (4, p.age)]
        | none => [(3, 0), (4, 0)])
  | _ => none

/-- The fields of READ-VIEW by station number and part; none for a number or a part that there is not (R157). -/
def viewRead (s : State) (station part : BitVec 8) : Option (List (Nat × Nat)) :=
  if h : station.toNat < 6 then
    if (⟨station.toNat, h⟩ : Station) = s.own then ownRead s part.toNat
    else peerRead s ⟨station.toNat, h⟩ part.toNat
  else none

/-- The answer to a read of the given code: DONE with its fields, or UNAVAILABLE where there are none. -/
def readAnswered (code : BitVec 6) (fields : Option (List (Nat × Nat))) : Response :=
  match fields with
  | some l => { code := code, outcome := .done, payload := payloadOf l }
  | none => { code := code, outcome := .unavailable, payload := 0 }

/-! ### Cross-checks -/

/-- Every station that serves `q`, with its value. -/
def offersOf (s : State) (q : Quantity) : List (Station × Nat) :=
  [0, 1, 2, 3, 4, 5].filterMap fun i => (offered s q i).map fun x => (i, x)

/-- The sources of a check (R63, R64): every drive speed and the lowest wheel speed; while the contactor reads closed
and a PACK's voltage serves, the lowest pack voltage and every link voltage. -/
def sourcesOf (s : State) : Check → List (Station × Nat)
  | .speed => offersOf s .driveSpeed ++ (offersOf s .wheelSpeed).take 1
  | .voltage =>
    if servedValue s.selector.served.contactor = 1 ∧ offersOf s .packVoltage ≠ [] then
      (offersOf s .packVoltage).take 1 ++ offersOf s .linkVoltage
    else []

/-- Two values of a check lie further apart than its tolerance (R63, R64). -/
def apart (c : Check) (a b : Nat) : Bool :=
  match c with
  | .speed => decide (max 10 (max a b / 16) < max a b - min a b)
  | .voltage => decide (20 + max a b / 32 < max a b - min a b)

/-- A check disagrees (R63, R64): some pair of its sources for speed, the PACK with some DRIVE for voltage. -/
def Disagrees (s : State) (c : Check) : Prop :=
  match c with
  | .speed => ∃ y ∈ sourcesOf s .speed, ∃ z ∈ sourcesOf s .speed, apart .speed y.2 z.2 = true
  | .voltage =>
    ∃ y ∈ (sourcesOf s .voltage).head?, ∃ z ∈ (sourcesOf s .voltage).tail, apart .voltage y.2 z.2 = true

/-- Station `x` alone disagrees (R66): of three sources or more it is one, and two of them disagree exactly when it is
one of the two. -/
def OutlierOf (s : State) (c : Check) (x : Station) : Prop :=
  3 ≤ (sourcesOf s c).length ∧ x ∈ (sourcesOf s c).map Prod.fst
    ∧ ∀ y ∈ sourcesOf s c, ∀ z ∈ sourcesOf s c, y.1 ≠ z.1 → (apart c y.2 z.2 = true ↔ y.1 = x ∨ z.1 = x)

def otherCheck : Check → Check
  | .speed => .voltage
  | .voltage => .speed

def disputedOf (x : Selector) : Check → Bool
  | .speed => x.speedDisputed
  | .voltage => x.voltageDisputed

def countOf (x : Selector) : Check → Nat
  | .speed => x.speedCount
  | .voltage => x.voltageCount

/-! ### Queues -/

/-- The head of each transmit queue, by its commitment; none where the queue is empty. -/
def headOf (l : LineInterface) : TxQueue → Option Bool
  | .alert => l.alerts.head?.map Queued.committed
  | .directive => l.directives.head?.map Queued.committed
  | .beacon => l.beacon.map Queued.committed
  | .wake => l.wake.map Queued.committed

/-- The order of the queues (R22): alert, directive, beacon, wake. -/
def rankOf : TxQueue → Nat
  | .alert => 0
  | .directive => 1
  | .beacon => 2
  | .wake => 3

/-- The head of queue `k` is the frame to offer (R22): it is committed, or none is and every better-ranked queue is
empty. -/
def OfferedByRank (l : LineInterface) (k : TxQueue) : Prop :=
  headOf l k = some true
    ∨ (∀ j, headOf l j ≠ some true) ∧ headOf l k = some false ∧ ∀ j, rankOf j < rankOf k → headOf l j = none

/-- The alert queue after an ALERT is given (R19): a queue with room takes it at the tail; a full one gives up the
oldest of its lowest alerts that are not committed, unless the new one is lower, and gives up none where all are
committed. -/
def AlertRule (a : Alert) (l : List (Queued Alert)) : Prop :=
  (l.length < 4 → placeAlert a l = l ++ [{ frame := a, attempt := 1, committed := false }])
  ∧ (4 ≤ l.length → (∀ q ∈ l, q.committed = true) → placeAlert a l = l)
  ∧ ∀ n : Nat, 4 ≤ l.length → ∀ q ∈ l[n]?, q.committed = false →
      (∀ x ∈ l.take n, x.committed = false → q.frame.claim.level < x.frame.claim.level) →
      (∀ x ∈ l.drop n, x.committed = false → q.frame.claim.level ≤ x.frame.claim.level) →
      placeAlert a l =
        if q.frame.claim.level ≤ a.claim.level then
          l.take n ++ l.drop (n + 1) ++ [{ frame := a, attempt := 1, committed := false }]
        else l

/-- The claims of a beacon built at `t` (R91): at most four of its local records, the highest level first and of
equal levels the lowest code, and none left out that comes before one of them. -/
def ClaimsOf (t : State) (l : List Claim) : Prop :=
  l.length ≤ 4
    ∧ l.Pairwise (fun a b => b.level < a.level ∨ a.level = b.level ∧ a.code < b.code)
    ∧ (∀ c ∈ l, ∃ r ∈ t.engine.records, r.code = c.code ∧ r.level = c.level ∧ isLocal r.code = true)
    ∧ ∀ r ∈ t.engine.records, isLocal r.code = true →
        (∃ c ∈ l, c.code = r.code)
          ∨ l.length = 4 ∧ ∀ c ∈ l, r.level < c.level ∨ r.level = c.level ∧ c.code < r.code

/-! ### Entries of the peer view -/

/-- The beacon of a peer as R36 stores it. -/
def storedFrom (e : PeerEntry) (b : Beacon) : PeerEntry :=
  { e with
    published := some b.published, period := some b.period, ownLevel := b.ownLevel
    posture := some b.posture, cl := b.cl, flags := b.flags, claims := b.claims
    lastSeq := b.sequence, age := 0, heard := true }

/-- The sequence gap k of a beacon (R35). -/
def gapOf (e : PeerEntry) (b : Beacon) : Nat := (b.sequence.val + 16 - e.lastSeq.val) % 16

/-- The score after a sorted beacon (R46): a gap k of 2 or more adds 6 for each missing beacon, 48 at most, and
every beacon takes 4. -/
def scoredBy (e : PeerEntry) (b : Beacon) : Nat :=
  min 255 (e.score + if gapOf e b ≤ 1 then 0 else min 48 (6 * (gapOf e b - 1))) - 4

/-- The thresholds of R47. -/
def byThresholds (e : PeerEntry) : PeerEntry :=
  { e with
    state :=
      if e.state = .live ∧ 96 ≤ e.score then .suspect
      else if e.state = .suspect ∧ e.score ≤ 48 then .live
      else e.state }

/-- An entry one own period older (R44, R47): the heard mark is used up, or the age rises and from 2 on the score
by 12. -/
def agedBy (e : PeerEntry) : PeerEntry :=
  byThresholds
    (if e.heard then { e with heard := false }
    else
      { e with
        age := min 15 (e.age + 1)
        score := if 2 ≤ min 15 (e.age + 1) then min 255 (e.score + 12) else e.score })

/-- The self-contained count after one own period (R48). -/
def selfCountAfter (e : PeerEntry) : Nat := if e.ownLevel = 7 then min 255 (e.selfCount + 1) else 0

/-- The entry that a muting leaves of `e` (R137): last sequence and flags stay, the CEASE is pending, the hold is
`hold`, and every other field is as after a reset. -/
def mutedFrom (e : PeerEntry) (reason : MuteReason) (hold : Nat) : PeerEntry :=
  { state := .muted, published := none, lastSeq := e.lastSeq, heard := false, age := 0, score := 0
    period := none, ownLevel := 0, posture := none, cl := 0, flags := e.flags, claims := [], selfCount := 0
    ceasePending := true, muteReason := some reason, muteHold := some hold, frames := 0, downCause := .muted }

/-- A CEASE for peer `i` waits among the directives `l` (R139). -/
def ceaseWaits (i : Station) (l : List (Queued Directive)) : Bool :=
  l.any fun q =>
    match q.frame with
    | .cease j _ => decide (j = i)
    | .readmit _ => false

/-- The entry `e` of a MUTED peer `i` after a good frame (R41, R139): the frame is counted, and a CEASE that is owed is
given unless the directive queue `l` is full and holds none for the peer. -/
def mutedCounted (i : Station) (e : PeerEntry) (l : List (Queued Directive)) : PeerEntry :=
  { e with
    frames := min 255 (e.frames + 1)
    ceasePending := e.ceasePending && !ceaseWaits i l && decide (4 ≤ l.length) }

/-- The directive queue `l` after a good frame of the MUTED peer `i` with entry `e` (R139). -/
def ceaseGiven (i : Station) (e : PeerEntry) (l : List (Queued Directive)) : List (Queued Directive) :=
  if e.ceasePending = true ∧ ceaseWaits i l = false ∧ l.length < 4 then
    l ++ [{ frame := .cease i (e.muteReason.getD .score), attempt := 1, committed := false }]
  else l

/-- A MUTED entry after a beacon (R138, R139): sequence and flags follow, and the frame is counted. -/
def mutedHeard (e : PeerEntry) (b : Beacon) (l : List (Queued Directive)) : PeerEntry :=
  { mutedCounted b.sender e l with lastSeq := b.sequence, flags := b.flags }

/-- A good frame of station `i` other than a beacon. -/
def GoodFrameOf (i : Station) (c : Instr) : Prop :=
  match c with
  | .alertReceived a => a.wf = true ∧ a.sender = i
  | .ceaseReceived d => d.wf = true ∧ d.sender = i
  | .readmitReceived d => d.wf = true ∧ d.sender = i
  | .wakeFrameReceived j => j = i
  | _ => False

/-- A beacon asks for the probation of the MUTED entry `e` (R138, R146). -/
def MutedAsks (e : PeerEntry) (b : Beacon) : Prop :=
  e.muteHold = some 0 ∧ (b.flags.rejoin = true ∨ b.flags.joining = true ∨ b.flags.isolated = false)

/-- Peer `i`, whose entry a beacon left at `e`, has asked for probation (R146, R147): it stands in the rejoin queue
once, and where none runs its probation starts. -/
def AsksForProbation (i : Station) (e : PeerEntry) (s t : State) : Prop :=
  t.isolation.queue = (if i ∈ s.isolation.queue then s.isolation.queue else s.isolation.queue ++ [i])
    ∧ (if s.isolation.probation = none then
        t.isolation.probation =
            some { station := i, origin := if e.state = .lost then .lost else .muted, clean := 0 }
          ∧ t.peers = s.peers.set i
              { e with
                state := .probation, ceasePending := false, muteHold := none
                muteReason := if e.state = .lost then some .score else e.muteReason
                age := 0, heard := true, downCause := .probation }
      else t.isolation.probation = s.isolation.probation ∧ t.peers = s.peers.set i e)

/-- Peer `i` has not asked for probation, and its entry is `e`. -/
def AsksNothing (i : Station) (e : PeerEntry) (s t : State) : Prop :=
  t.isolation.queue = s.isolation.queue ∧ t.isolation.probation = s.isolation.probation
    ∧ t.peers = s.peers.set i e

/-- A beacon gives a probation level of 7 (R148). -/
def GivesSeven (b : Beacon) : Prop :=
  if b.flags.isolated then ∃ c ∈ b.claims, c.code ≠ 3 ∧ c.level = 7 else b.ownLevel = 7

/-- An ALERT gives the probation of entry `e` a level of 7 (R148). -/
def AlertGivesSeven (e : PeerEntry) (a : Alert) : Prop :=
  if e.flags.isolated then a.claim.code ≠ 3 ∧ a.claim.level = 7 else a.ownLevel = 7

/-- A beacon abandons the probation `p` (R150). -/
def ParksOnProbation (p : Probation) (b : Beacon) : Prop := p.origin = .lost ∧ b.flags.parking = true

/-- A beacon fails the probation `p` of entry `e` (R149): a gap, a level of 7, a rejoin given up, a restart. -/
def FailsProbation (p : Probation) (e : PeerEntry) (b : Beacon) : Prop :=
  2 ≤ gapOf e b ∨ GivesSeven b
    ∨ (p.origin = .muted ∧ b.flags.isolated = true ∧ b.flags.rejoin = false)
    ∨ (b.flags.joining = true ∧ e.flags.joining = false)

/-- The level adopted from an entry (R52): 4 of an isolated peer, else the own level and 6 at most; none for an own
level of 0. -/
def adoptedFrom (isolated : Bool) (ownLevel : Level) : Option Level :=
  if isolated then some 4 else if ownLevel = 0 then none else some (if ownLevel = 7 then 6 else ownLevel)

/-- The level adopted from an entry (R52): none while it is not LIVE or SUSPECT. -/
def adoptedOf (e : PeerEntry) : Option Level :=
  if e.state = .live ∨ e.state = .suspect then adoptedFrom e.flags.isolated e.ownLevel else none

/-- CONFIG-MISMATCH holds for an entry (R54). -/
def mismatchOf (s : State) (e : PeerEntry) : Bool :=
  decide ((e.state = .live ∨ e.state = .suspect) ∧ ∃ p ∈ e.period, p ≠ s.config.period)

/-! ### Records of an entry -/

/-- PEER-DOWN(i) at the level of the peer's role (R50). -/
def peerDownOf (s : State) (i : Station) (cause : DownCause) : Raise :=
  { code := 32 + i.val, level := downLevel (s.start.population.get i).role, fm := 256, fr := 256
    param := some { station := i, cause := some cause } }

/-- PEER-POSTURE(i) at an adopted level (R52). -/
def peerPostureOf (i : Station) (l : Level) : Raise :=
  { code := 38 + i.val, level := l, fm := 256, fr := 256, param := some { station := i, cause := none } }

/-- CONFIG-MISMATCH(i) (R54). -/
def configMismatchOf (i : Station) : Raise :=
  { code := 44 + i.val, level := 4, fm := 256, fr := 256, param := some { station := i, cause := none } }

/-- PEER-POSTURE(i) after a beacon that took the adopted level from `old` to `new`: the table of R53. A level that
stays is presented (R49). -/
def PostureFollows (i : Station) (old new : Option Level) (s t : State) : Prop :=
  match new with
  | none => if old = none then RecordStays (38 + i.val) s t else RecordEnds (38 + i.val) s t
  | some l =>
    match s.record (38 + i.val) with
    | none => RecordCreated (peerPostureOf i l) t
    | some r =>
      if old = some l then RecordStays (38 + i.val) s t
      else if r.level < l then untaken (t.record (38 + i.val)) = some (createdBy (peerPostureOf i l) t)
      else if l = r.level ∧ r.life ≠ .holds then RecordRaised 1 (peerPostureOf i l) s t
      else if l < r.level then RecordEnds (38 + i.val) s t
      else RecordStays (38 + i.val) s t

/-- The records of peer `i` that follow a beacon which took its entry from `e` to `e'` (R36, R37, R53, R54). -/
def EntryRecords (i : Station) (e e' : PeerEntry) (s t : State) : Prop :=
  PostureFollows i (adoptedOf e) (adoptedOf e') s t
    ∧ RecordFollows (mismatchOf s e) (mismatchOf s e') (configMismatchOf i) s t

/-! ### Muting at a beacon -/

/-- A beacon that leaves the entry `e` LIVE or SUSPECT brings it a score of 192 or more in RUN, which is a mute
decision (R46, R47, R136). -/
def mutesBy (s : State) (e : PeerEntry) (b : Beacon) : Bool :=
  decide (s.station = .run ∧ b.flags.parking = false ∧ 192 ≤ scoredBy e b)

/-- A record whose condition has ended (R80), apart from its taken mark. -/
def endedFrom (r : Record) : Record :=
  { r with
    taken := false
    life := if r.life = .holds then if 5 ≤ r.level then .latched else .dwell 4 else r.life }

/-- A condition has begun and ended within one handling (R76, R77, R80): its absent record was created, or found every
general slot occupied, and a record present was re-raised; then the condition went. -/
def RecordPasses (a : Raise) (s t : State) : Prop :=
  match s.record a.code with
  | none =>
    untaken (t.record a.code) = some (endedFrom (createdBy a t)) ∨ t.generalFull = true ∧ t.record a.code = none
  | some r =>
    untaken (t.record a.code) = some (endedFrom
      { r with count := min 255 (r.count + 1), unread := true, life := .holds, param := a.param })

/-- PEER-POSTURE(i) after a beacon that took the adopted level from `old` to `new` and muted the peer: the table of
R53, and then the end of the condition (log 32). -/
def PosturePasses (i : Station) (old new : Option Level) (s t : State) : Prop :=
  match new with
  | none => if old = none then RecordStays (38 + i.val) s t else RecordEnds (38 + i.val) s t
  | some l =>
    match s.record (38 + i.val) with
    | none => RecordPasses (peerPostureOf i l) s t
    | some r =>
      if old = some l then RecordEnds (38 + i.val) s t
      else if r.level < l then
        untaken (t.record (38 + i.val)) = some (endedFrom (createdBy (peerPostureOf i l) t))
      else if l = r.level ∧ r.life ≠ .holds then RecordPasses (peerPostureOf i l) s t
      else RecordEnds (38 + i.val) s t

/-- Beacon `b`, which found the entry `e`, has muted its sender by SCORE (R136, R137): PEER-DOWN is raised with cause
MUTED, the peer has left the readmit-owed list, and PEER-POSTURE and CONFIG-MISMATCH, which the beacon moved first
(log 32), hold no longer. -/
def MutedAtBeacon (b : Beacon) (e : PeerEntry) (s t : State) : Prop :=
  RecordRaised 1 (peerDownOf t b.sender .muted) s t
    ∧ t.isolation.owed = s.isolation.owed.filter (fun i => decide (i ≠ b.sender))
    ∧ (TableLaw s.engine.records →
        PosturePasses b.sender (adoptedOf e) (adoptedFrom b.flags.isolated b.ownLevel) s t
          ∧ if mismatchOf s e = true then RecordEnds (44 + b.sender.val) s t
            else if b.period ≠ s.config.period then RecordPasses (configMismatchOf b.sender) s t
            else RecordStays (44 + b.sender.val) s t)

/-! ### Presentations -/

def presentedIf (holds : Bool) (a : Raise) : List Raise := if holds then [a] else []

/-- What is presented of the entry of peer `i` while it holds (R49). -/
def presentedOf (s : State) (i : Station) : List Raise :=
  presentedIf (s.peer i).state.down (peerDownOf s i (s.peer i).downCause)
    ++ ((adoptedOf (s.peer i)).map (peerPostureOf i)).toList
    ++ presentedIf (mismatchOf s (s.peer i)) (configMismatchOf i)

/-- Every condition of the part that is presented at an own expiry while it holds (R10, R31, R49, R62). -/
def presentedBy (s : State) : List Raise :=
  presentedIf (decide (8 ≤ s.line.txFailures)) { code := 52, level := 4, fm := 256, fr := 256 }
    ++ presentedIf s.line.degraded { code := 50, level := 3, fm := 256, fr := 256 }
    ++ presentedIf (decide (s.line.stuck ≠ .clear)) { code := 51, level := 6, fm := 0, fr := 128 }
    ++ ([0, 1, 2, 3, 4, 5].map (presentedOf s)).flatten
    ++ if s.station.riding = true then
        presentedIf s.start.missingHeld { code := 54, level := 6, fm := 0, fr := 128 }
          ++ presentedIf s.start.conflictHeld { code := 53, level := 7, fm := 0, fr := 0 }
          ++ presentedIf (s.selector.speedDisputed || s.selector.voltageDisputed)
            { code := 56, level := 3, fm := 256, fr := 256 }
          ++ presentedIf s.selector.speedUnknown { code := 57, level := 5, fm := 256, fr := 256 }
          ++ presentedIf s.selector.brakeHolds { code := 58, level := 4, fm := 0, fr := 256 }
          ++ presentedIf s.selector.chargeHolds { code := 59, level := 6, fm := 0, fr := 0 }
      else []

/-- The presentations of an own expiry from `s` to `t` (R76): the absent record of a condition that holds throughout is
raised again, at a count of 1 and first seen at the new own beacon count, where a slot is free; a record whose
condition holds stays as it is; and where no condition begins, nothing is folded. -/
def Presented (s t : State) : Prop :=
  (∀ a ∈ presentedBy s, a ∈ presentedBy t →
    (s.record a.code = none → RecordCreated a t)
      ∧ (∀ r ∈ s.record a.code, r.life = .holds → RecordStays a.code s t))
  ∧ ((∀ a ∈ presentedBy t, a ∈ presentedBy s) → (∀ r ∈ s.record 4, r.life = .latched) → RecordStays 4 s t)

/-! ### Population record -/

/-- A place after a valid beacon with role `r` (R9). -/
def heardPlace (p : Place) (r : Role) : Place :=
  match p.role with
  | none => { p with role := some r }
  | some held => if held = r then p else { role := some r, clash := 16 }

/-- Start control after a valid beacon of station `i` with role `r`, in JOIN or RUN (R9, R10): in RUN the population
check runs again where the place changed. -/
def RoleHeard (i : Station) (r : Role) (s t : State) : Prop :=
  t.start =
    { s.start with
      population := s.start.population.set i (heardPlace (s.start.population.get i) r)
      missingHeld :=
        if s.station = .run ∧ (s.start.population.get i).role ≠ some r then
          roleMissing t.start.population
        else s.start.missingHeld
      conflictHeld :=
        if s.station = .run ∧ (s.start.population.get i).role ≠ some r then
          roleConflict t.start.population
        else s.start.conflictHeld }

/-! ### Directives lost and owed -/

/-- The directive that a failed attempt drops: the head of the directive queue, failed for the third time (R23). -/
def droppedBy (a : Attempt) (s : State) : List Directive :=
  if a.queue = .directive then
    ((s.line.directives.head?.filter fun q => decide (3 ≤ q.attempt)).map Queued.frame).toList
  else []

/-- The directives of `l` have been reported dropped or discarded (R20, R139, R152): a CEASE is owed again to a target
that is MUTED, and the target of a READMIT enters the readmit-owed list if it is LIVE or SUSPECT. -/
def DirectivesLost (l : List Directive) (s t : State) : Prop :=
  (∀ i, t.peer i =
      if (s.peer i).state = .muted ∧ (Directive.cease i .score ∈ l ∨ Directive.cease i .selfContained ∈ l) then
        { s.peer i with ceasePending := true }
      else s.peer i)
    ∧ (∀ i, i ∈ t.isolation.owed ↔
        i ∈ s.isolation.owed ∨ Directive.readmit i ∈ l ∧ (s.peer i).state.trusted = true)
    ∧ (OwedLaw s → OwedLaw t)

/-- The peers whose READMIT is owed and does not wait in the directive queue (R152). -/
def readmitsDue (s : State) : List Station :=
  s.isolation.owed.filter fun i => decide (Directive.readmit i ∉ s.line.directives.map Queued.frame)

/-- The READMITs owed have been given in ascending order (R20, R152): those the four places of the directive queue have
room for joined its tail, and the others stay owed unless the peer has left LIVE and SUSPECT. -/
def ReadmitsGiven (s t : State) : Prop :=
  t.line.directives =
      s.line.directives ++ ((readmitsDue s).take (4 - s.line.directives.length)).map (fun i =>
        { frame := .readmit i, attempt := 1, committed := false })
    ∧ t.isolation.owed =
        ((readmitsDue s).drop (4 - s.line.directives.length)).filter fun i => (t.peer i).state.trusted

/-! ### Directive records -/

/-- The cease record after a counted CEASE (R140): the sender's place with age 0 and the CEASE's reason. -/
def ceaseAfter (i : Station) (r : MuteReason) (l : List CeasePlace) : List CeasePlace :=
  if (l.map CeasePlace.sender).contains i then
    l.map fun p => if p.sender = i then { sender := i, age := 0, reason := r } else p
  else l ++ [{ sender := i, age := 0, reason := r }]

/-- The readmit record after a counted READMIT (R144): the sender's place with age 0. -/
def readmitAfter (i : Station) (l : List ReadmitPlace) : List ReadmitPlace :=
  if (l.map ReadmitPlace.sender).contains i then
    l.map fun p => if p.sender = i then { sender := i, age := 0 } else p
  else l ++ [{ sender := i, age := 0 }]

/-- The places of a record whose senders are trusted (R141, R144). -/
def counted (s : State) (l : List Station) : Nat := (l.filter fun i => (s.peer i).state.trusted).length

/-- The effective quorum (R141). -/
def quorumOf (s : State) : Nat :=
  max 1 (if counted s stations < s.config.quorum then counted s stations else s.config.quorum)

/-! ### Quorum -/

/-- Neither comparison of the quorum is met (R141, R144): fewer counted CEASEs than the quorum while ACTIVE,
fewer counted READMITs while REJOINING. -/
def QuorumShort (s : State) : Prop :=
  (s.isolation.own = .active → counted s (s.isolation.cease.map CeasePlace.sender) < quorumOf s)
    ∧ (s.isolation.own = .rejoining → counted s (s.isolation.readmit.map ReadmitPlace.sender) < quorumOf s)

end Sys2Proof.Machine
end

