-- ==== Sys2Proof/Certificates/Slice0/Obligations.lean ====
section
/-! DEFINITION. The statements for the provers. Each command's completion statement ends in the next state that `exec`
answers; `OnlyChanges` is its frame. -/

section
open Sys2Proof Sys2Proof.Machine

/-! ### Steps -/

/-- A step takes the command at the front of the queue and runs it on the state with the queue's rest. -/
def Obligations.StepRunsTheFrontCommand : Prop :=
  ∀ (c : Instr) (rest : List Instr) (s : State),
    step (s.setPending (c :: rest)) = exec c (s.setPending rest)

/-- On an empty queue a step is one millisecond (the model's choice, log 1): with no timer at its end each
running timer is one lower and nothing else changes. It rests on the model's log 1. -/
def Obligations.IdleStepCountsOneMillisecond : Prop :=
  ∀ s : State, s.pending = [] → NoTimerEnds s → step s = .next (oneMillisecond s)

/-- Every command completes in every state, and leaves the waiting commands as they are. That they stay through a
reset too is the model's choice. It rests on the model's log 2, log 5 and log 26. -/
def Obligations.EveryCommandCompletes : Prop :=
  ∀ (c : Instr) (s : State), ∃ t, exec c s = .next t ∧ t.pending = s.pending

/-! ### Resets and configuration -/

/-- POWER_ON and PIN: every block at its reset value, the response queue empty, the cause record by R13, the trip
inputs as they are. It rests on the model's log 4, log 5, log 21, log 31 and log 38. -/
def Obligations.ResetsLeaveTheStatedValues : Prop :=
  ∀ (straps : Straps) (s : State),
    (∃ t, exec (.powerOn straps) s = .next t ∧ ResetValues straps t ∧ t.trips = s.trips
      ∧ t.pending = s.pending ∧ t.link = { responses := [], restartArmed := false, out := none }
      ∧ t.start.cause = { powerOn := true, pin := false, restart := false })
    ∧ ∃ t, exec (.pin straps) s = .next t ∧ ResetValues straps t ∧ t.trips = s.trips
      ∧ t.pending = s.pending ∧ t.link = { responses := [], restartArmed := false, out := none }
      ∧ t.start.cause = { s.start.cause with pin := true }

/-- The state after reset is in order. It rests on the model's log 3 and log 38. -/
def Obligations.ResetIsInOrder : Prop := InOrder State.reset

/-- SETUP with an assigned identifier: the parameter holds the value brought into range by the table of R3, and the
response says when that differs; the served values follow the sources and the parameters as they then stand. That the
band held stays where a boundary changes is the model's choice. It rests on the model's log 38 and log 40. -/
def Obligations.SetupStoresTheParameter : Prop :=
  ParameterTable
    ∧ ∀ (id : BitVec 8) (value : BitVec 16) (held : Nat) (s : State),
      Ready .setup s → PinsFollow s → EnvelopeLaw s → Settled s →
      clampParameter id.toNat value.toNat = some held →
      ∃ t, exec (.setup id value) s = .next t
        ∧ OnlyChanges [.start, .config, .link, .selector] s t
        ∧ Answers s t (Response.status 1 { clamped := decide (held ≠ value.toNat) } held)
        ∧ t.config = storeParameter s.config id.toNat held
        ∧ t.selector = { s.selector with served := t.resolved }

/-- SETUP and PUBLISH with an identifier that is not assigned, or PUBLISH of a quantity of another role, are
answered UNAVAILABLE and store nothing. -/
def Obligations.UnassignedIdentifiersStoreNothing : Prop :=
  ∀ (id : BitVec 8) (value : BitVec 16) (s : State), PinsFollow s →
    (Ready .setup s → 15 ≤ id.toNat →
      exec (.setup id value) s = .next (s.answered (Response.plain 1 .unavailable)))
    ∧ (Ready .publish s → (∀ q ∈ s.start.straps.role.quantities, quantityOf id.toNat ≠ some q) →
      exec (.publish id value) s = .next (s.answered (Response.plain 3 .unavailable)))

/-- SEAL and CONFIG_WINDOW_EXPIRY in CONFIG seal the set and enter JOIN; out of CONFIG the expiry, which cannot
come about there, changes nothing. That the band held stays where the seal sets W to C is the model's choice.
It rests on the model's log 2, log 31 and log 40. -/
def Obligations.SealEntersJoin : Prop :=
  ∀ s : State,
    (s.station = .config → s.supervision.firstToken = false → PinsFollow s → EnvelopeLaw s →
      s.record 1 = none → s.engine.cl < 7 →
      (∃ t, exec .seal s = .next t ∧ Sealed s t ∧ t.start.parkArmed = false
        ∧ t.link = s.linkAfter
            (if s.config.cruise < s.config.walk then
              Response.status 2 { boundaryAdjusted := true } s.config.cruise
            else Response.plain 2 .done) false)
      ∧ ∃ t, exec .configWindowExpiry s = .next t ∧ Sealed s t ∧ t.start.parkArmed = s.start.parkArmed
        ∧ t.link = s.link)
    ∧ (s.station ≠ .config → exec .configWindowExpiry s = .next s)

/-! ### Module link -/

/-- While PARK-ENTER is in flight every request is answered BUSY and changes nothing; a damaged one is answered so
under code 63. It rests on the model's log 18. -/
def Obligations.RequestsAreBusyInParking : Prop :=
  ∀ (c : Instr) (q : Request) (s : State), requestOf c = some q → s.station = .parking →
    exec c s = .next { s with link := s.linkAfter (Response.plain q.code .busy) s.link.restartArmed }

/-- A request in a station state that does not take it, and a damaged request in any state but PARKING, is
answered UNAVAILABLE; it returns the park acceptor to IDLE and, but for RESTART, the restart acceptor too. -/
def Obligations.UntakenRequestsAreUnavailable : Prop :=
  ∀ (c : Instr) (q : Request) (s : State), requestOf c = some q → s.station ≠ .parking →
    q.takenIn s.station = false → s.supervision.firstToken = false → PinsFollow s →
    exec c s = .next
      { s with
        start := { s.start with parkArmed := false }
        link := s.linkAfter (Response.plain q.code .unavailable) (s.link.restartArmed && decide (q = .restart)) }

/-- A transaction of any other number of clocks changes nothing; the empty request clocks out a response and
changes nothing else; a damaged request is answered under code 63. -/
def Obligations.TransactionsWithoutARequest : Prop :=
  ∀ (n : Nat) (cause : BadCause) (s : State),
    exec (.incompleteTransaction n) s = .next s
    ∧ exec .emptyRequest s = .next
        { s with link := { s.link with responses := s.link.responses.tail, out := some s.nextOut } }
    ∧ (s.station ≠ .parking → s.supervision.firstToken = false → PinsFollow s →
        exec (.badRequest cause) s = .next (s.answered (Response.plain 63 .unavailable)))

/-- A request other than REFRESH, or a REFRESH in a state that does not take it, taken between the two tokens
clears the first-token flag and counts a refresh error; the third sets the count to 0. Where the request does nothing
else, a damaged one or READ_CAUSE in JOIN and RUN, it is answered by its own rule and the third error raises
SUPERVISION. It rests on the model's log 16. -/
def Obligations.RequestBetweenTokensIsAnError : Prop :=
  ∀ (c : Instr) (q : Request) (cause : BadCause) (s : State), requestOf c = some q → s.station ≠ .parking →
    (q = .refresh → q.takenIn s.station = false) →
    (∀ token straps, c = .restart token straps → s.restartAccepted token = false) →
    s.supervision.firstToken = true →
    (∃ t, exec c s = .next t ∧ t.supervision.firstToken = false
      ∧ t.supervision.errors = if 2 ≤ s.supervision.errors then 0 else s.supervision.errors + 1)
    ∧ (c = .badRequest cause ∨ c = .readCause → s.station = .join ∨ s.station = .run → PinsFollow s →
      ∃ t, exec c s = .next t
        ∧ Answers s t
            (if c = .readCause then Response.read 11 (causePayload s.start.cause)
            else Response.plain 63 .unavailable)
        ∧ (s.supervision.errors < 2 →
            OnlyChanges [.start, .link, .supervision] s t
            ∧ t.supervision =
                { s.supervision with firstToken := false, errors := s.supervision.errors + 1 })
        ∧ (2 ≤ s.supervision.errors →
            OnlyChanges [.start, .line, .isolation, .engine, .envelope, .supervision, .link, .pins] s t
            ∧ t.supervision = { s.supervision with firstToken := false, errors := 0 }
            ∧ SupervisionRaised s t ∧ HandedOver s t))

/-- READ_VIEW, READ_STACK and READ_CAUSE are answered with their parts, or UNAVAILABLE where there is no such
part, and change nothing; READ_ENVELOPE returns the envelope and clears the changed-since-read flag, which ATTN
then follows; every payload holds the fields that R171 and R172 list, each at its place; CLEAR_CAUSE clears the three
flags. It rests on the model's log 18 and log 19. -/
def Obligations.ReadsReturnAndClearWhatTheirRulesSay : Prop :=
  ∀ (station part : BitVec 8) (s : State), PinsFollow s →
    (Ready .readView s →
      exec (.readView station part) s = .next (s.answered (readAnswered 8 (viewRead s station part))))
    ∧ (Ready .readStack s →
      exec (.readStack part) s = .next (s.answered (readAnswered 10 (stackRead s part.toNat))))
    ∧ (Ready .readCause s →
      exec .readCause s = .next (s.answered (readAnswered 11 (some (causeRead s.start.cause)))))
    ∧ (Ready .readEnvelope s →
      exec .readEnvelope s = .next
        { s.answered (readAnswered 9 (some (envelopeRead s))) with
          envelope := { s.envelope with changed := false }
          pins := { s.pins with attn := s.attnFollows && s.anyUnread } })
    ∧ (Ready .clearCause s →
      exec .clearCause s = .next
        { s.answered (Response.plain 12 .done) with
          start := { s.start with
            parkArmed := false, cause := { powerOn := false, pin := false, restart := false } } })

/-- A correct pair of REFRESH tokens: FIRST sets the flag, SECOND completes the refresh. -/
def Obligations.RefreshPairReloadsTheTimer : Prop :=
  ∀ s : State, s.station = .join ∨ s.station = .run → PinsFollow s →
    (s.supervision.firstToken = false →
      exec (.refresh 1) s = .next
        { s.answered (Response.plain 13 .done) with
          supervision := { s.supervision with firstToken := true } })
    ∧ (s.supervision.firstToken = true →
      exec (.refresh 2) s = .next
        { s.answered (Response.plain 13 .done) with
          supervision :=
            { s.supervision with
              firstToken := false
              errors := 0
              running := s.supervision.running || decide (s.config.startMode = .onFirstRefresh)
              count :=
                if s.supervision.running = true ∨ s.config.startMode = .onFirstRefresh then s.config.reload
                else s.supervision.count } })

/-- Any other REFRESH is a refresh error: it carries the count reached, and the third raises SUPERVISION. -/
def Obligations.RefreshErrorsRaiseSupervision : Prop :=
  ∀ (token : BitVec 8) (s : State), s.station = .join ∨ s.station = .run → PinsFollow s →
    (token ≠ 1 ∨ s.supervision.firstToken = true) → (token ≠ 2 ∨ s.supervision.firstToken = false) →
    ∃ t, exec (.refresh token) s = .next t
      ∧ Answers s t (Response.statusByte 13 { refreshError := true } (s.supervision.errors + 1))
      ∧ (s.supervision.errors < 2 →
          OnlyChanges [.start, .link, .supervision] s t
          ∧ t.supervision =
              { s.supervision with firstToken := false, errors := s.supervision.errors + 1 })
      ∧ (2 ≤ s.supervision.errors →
          OnlyChanges [.start, .line, .isolation, .engine, .envelope, .supervision, .link, .pins] s t
          ∧ t.supervision = { s.supervision with firstToken := false, errors := 0 }
          ∧ SupervisionRaised s t ∧ HandedOver s t)

/-- REJOIN: an ISOLATED station with no other record of level 5 or more begins its rejoin; with one, or while
REJOINING, it is BUSY; an ACTIVE one is UNAVAILABLE. -/
def Obligations.RejoinBeginsWhenIsolated : Prop :=
  ∀ s : State, Ready .rejoin s → PinsFollow s →
    exec .rejoin s = .next
      (match s.isolation.own with
        | .active => s.answered (Response.plain 17 .unavailable)
        | .rejoining => s.answered (Response.plain 17 .busy)
        | .isolated =>
          if s.engine.records.any (fun r => decide (r.code ≠ 3 ∧ 5 ≤ r.level)) then
            s.answered (Response.plain 17 .busy)
          else
            { s.answered (Response.plain 17 .done) with
              isolation := { s.isolation with own := .rejoining, readmit := [], rejoinTimer := some 0 } })

/-- RESTART: FIRST arms an IDLE acceptor, SECOND at an ARMED one resets the part and leaves the DONE alone in
the queue, every other token leaves it IDLE and is UNAVAILABLE.
It rests on the model's log 4, log 5, log 21, log 31 and log 38. -/
def Obligations.RestartNeedsBothTokens : Prop :=
  ∀ (token : BitVec 8) (straps : Straps) (s : State), PinsFollow s →
    s.station = .config ∨ s.station = .join ∨ s.station = .run →
    (token = 2 ∧ s.link.restartArmed = true →
      ∃ t, exec (.restart token straps) s = .next t ∧ ResetValues straps t ∧ t.trips = s.trips
        ∧ t.pending = s.pending ∧ t.start.cause = { s.start.cause with restart := true }
        ∧ t.link =
            { responses := [Response.plain 18 .done], restartArmed := false, out := some s.nextOut })
    ∧ (s.supervision.firstToken = false → token = 1 ∧ s.link.restartArmed = false →
      exec (.restart token straps) s = .next
        { s.answered (Response.plain 18 .done) with link := s.linkAfter (Response.plain 18 .done) true })
    ∧ (s.supervision.firstToken = false → ¬(token = 2 ∧ s.link.restartArmed = true) →
        ¬(token = 1 ∧ s.link.restartArmed = false) →
      exec (.restart token straps) s = .next (s.answered (Response.plain 18 .unavailable)))

/-! ### Quantities -/

/-- PUBLISH of a quantity of the role stores the value brought into range, valid and fresh, and the served values
follow by the source table, and the band follows the served speed; where they stay nothing else changes. In RUN
SPEED-UNKNOWN and CHARGE-INTERLOCK hold as the served values then say: one that begins is raised, at level 5 and at
level 6, and one that goes is ended. In CONFIG and JOIN nothing is raised. A band worked out in CONFIG uses the
boundaries as they stand, and one recomputation of the envelope serves all that the handling hands over: both are the
model's choice. It rests on the model's log 8, log 17, log 18 and log 38. -/
def Obligations.PublishStoresTheOwnValue : Prop :=
  QuantityTable
    ∧ (∀ s : State, s.resolved = sourceTable s)
    ∧ ∀ (id : BitVec 8) (value : BitVec 16) (q : Quantity) (s : State),
      Ready .publish s → PinsFollow s → Settled s → quantityOf id.toNat = some q →
      q ∈ s.start.straps.role.quantities →
      ∃ t, exec (.publish id value) s = .next t
        ∧ OnlyChanges [.start, .line, .selector, .isolation, .engine, .envelope, .link, .pins] s t
        ∧ Answers s t
            (Response.status 3 { clamped := decide (clampPublished q value.toNat ≠ value.toNat) }
              (clampPublished q value.toNat))
        ∧ t.selector.own = s.selector.own.map (fun x =>
            if x.quantity = q then { x with value := clampPublished q value.toNat, valid := true, fresh := 0 }
            else x)
        ∧ t.selector.served = t.resolved
        ∧ BandFollows s t
        ∧ HandedOver s t
        ∧ (s.station = .run → ConditionsLaw s → ConditionsLaw t ∧ SelectorRecords s t)
        ∧ (s.station ≠ .run → t.engine = s.engine)
        ∧ (t.resolved = s.resolved →
            OnlyChanges [.start, .selector, .link] s t
            ∧ t.selector = { s.selector with own := t.selector.own })

/-- FRESHNESS_EXPIRY: the count of a valid own value that stands at 3, or at 4, is 4 and the value valid no longer;
the served values follow, and the band follows the served speed. In RUN and PARKING SPEED-UNKNOWN and CHARGE-INTERLOCK
follow the served values: one that begins is raised and one that goes is ended. In JOIN nothing is raised. That the
handover is one recomputation of the envelope is the model's choice. It rests on the model's log 2, log 6 and log 8.
-/
def Obligations.FreshnessExpiryInvalidates : Prop :=
  ∀ (q : Quantity) (s : State), s.station.onLine = true → Settled s →
    ∃ t, exec (.freshnessExpiry q) s = .next t
      ∧ t.selector.own = s.selector.own.map (fun x =>
          if x.quantity = q ∧ x.valid = true ∧ 3 ≤ x.fresh then { x with fresh := 4, valid := false } else x)
      ∧ t.selector.served = t.resolved
      ∧ BandFollows s t
      ∧ OnlyChanges [.start, .line, .selector, .isolation, .engine, .envelope, .link, .pins] s t
      ∧ PinsFollow t
      ∧ (s.station.riding = true → ConditionsLaw s → ConditionsLaw t ∧ SelectorRecords s t)
      ∧ (t.station = s.station → HandedOver s t)
      ∧ (s.station = .join → t.engine = s.engine)
      ∧ (t.resolved = s.resolved → PinsFollow s →
          OnlyChanges [.selector] s t ∧ t.selector = { s.selector with own := t.selector.own })

/-- The cross-checks and the brake-throttle check. At an own expiry a disagreeing check counts to 4 and is then disputed,
an agreeing one counts from 0; one that was disputed stays so while it disagrees and charges its outlier, a peer, 16,
and as it agrees it is disputed no more, the band is placed afresh for the speed check and DISPUTED ends. The
brake-throttle count runs to 3 while the throttle demands more than 100 against the brake. PERSISTENCE_EXPIRY at a count
of 4: the check becomes disputed, DISPUTED is raised at level 3 as it begins, and the speed check takes the band to
UNKNOWN. BRAKE_THROTTLE_COUNT at a count of 3: the condition begins and is raised at level 4 with motoring fraction 0.
That the handover is one recomputation of the envelope is the model's choice.
It rests on the model's log 6, log 7 and log 8. -/
def Obligations.SelectorConditionsBegin : Prop :=
  (∀ s : State, s.speedSources = sourcesOf s .speed ∧ s.voltageSources = sourcesOf s .voltage
    ∧ (s.speedDisagrees = true ↔ Disagrees s .speed) ∧ (s.voltageDisagrees = true ↔ Disagrees s .voltage))
  ∧ ∀ (c : Check) (later : List Later) (x : Station) (s : State), s.station = .run → Settled s →
    (s.generalFull = false → 4 ≤ s.persistence c → s.selector.speedDisputed = false →
      s.selector.voltageDisputed = false → s.record 56 = none →
      ∃ t, exec (.persistenceExpiry c) s = .next t
        ∧ OnlyChanges [.selector, .isolation, .engine, .envelope, .pins] s t
        ∧ t.selector =
            { s.selector with
              speedDisputed := decide (c = .speed)
              voltageDisputed := decide (c = .voltage)
              band := if c = .speed then .unknown else s.selector.band }
        ∧ PartRaised { code := 56, level := 3, fm := 256, fr := 256 } s t
        ∧ HandedOver s t)
    ∧ (s.generalFull = false → 3 ≤ s.selector.brakeCount → s.selector.brakeHolds = false →
      s.record 58 = none →
      ∃ t, exec .brakeThrottleCount s = .next t
        ∧ OnlyChanges [.selector, .isolation, .engine, .envelope, .pins] s t
        ∧ t.selector = { s.selector with brakeHolds := true }
        ∧ PartRaised { code := 58, level := 4, fm := 0, fr := 256 } s t
        ∧ HandedOver s t)
    ∧ (RejoinLaw s → SelectorLaw s → s.selector.speedDisputed = false → s.selector.voltageDisputed = false →
      ∃ t, exec (.ownBeaconExpiry later) s = .next t
        ∧ t.selector.speedCount = (if t.speedDisagrees then min 4 (s.selector.speedCount + 1) else 0)
        ∧ t.selector.voltageCount = (if t.voltageDisagrees then min 4 (s.selector.voltageCount + 1) else 0)
        ∧ t.selector.speedDisputed = decide (4 ≤ t.selector.speedCount ∧ .persistence .speed ∉ later)
        ∧ t.selector.voltageDisputed = decide (4 ≤ t.selector.voltageCount ∧ .persistence .voltage ∉ later)
        ∧ (s.selector.brakeHolds = false →
            t.selector.brakeCount =
                (if 100 < servedValue t.selector.served.throttle ∧ servedValue t.selector.served.brake = 1 then
                  min 3 (s.selector.brakeCount + 1)
                else 0)
              ∧ t.selector.brakeHolds = decide (3 ≤ t.selector.brakeCount ∧ .brakeThrottle ∉ later))
        ∧ (s.selector.brakeHolds = true →
            t.selector.brakeHolds = decide (50 ≤ servedValue t.selector.served.throttle)))
    ∧ (RejoinLaw s → SelectorLaw s → OwnEntryLaw s → disputedOf s.selector c = true →
        disputedOf s.selector (otherCheck c) = false → x ≠ s.own → (s.peer x).heard = true →
        (s.peer x).score < 176 → (s.peer x).age < s.config.lossLimit → (s.peer x).ownLevel ≠ 7 →
      ∃ t, exec (.ownBeaconExpiry later) s = .next t
        ∧ (OutlierOf t c x →
            (t.peer x).score = (s.peer x).score + 16
              ∧ ∀ y ∈ sourcesOf t c, y.1 ≠ x → (s.peer y.1).heard = true →
                (t.peer y.1).score = (s.peer y.1).score))
    ∧ (RejoinLaw s → SelectorLaw s → disputedOf s.selector c = true →
        disputedOf s.selector (otherCheck c) = false → (∀ i, (agedBy (s.peer i)).score < 176) →
      ∃ t, exec (.ownBeaconExpiry later) s = .next t
        ∧ (Disagrees t c →
            disputedOf t.selector c = true ∧ countOf t.selector c = min 4 (countOf s.selector c + 1)
              ∧ (c = .speed → t.selector.band = .unknown))
        ∧ (¬Disagrees t c →
            disputedOf t.selector c = false ∧ countOf t.selector c = 0
              ∧ (c = .speed → t.selector.band = bandFrom s.config .unknown t.selector.served.speed)
              ∧ (disputedOf t.selector (otherCheck c) = false → TableLaw s.engine.records →
                  ∀ r ∈ s.record 56, r.life = .holds → ∃ u ∈ t.record 56,
                    u.life = if 5 ≤ r.level then .latched else .dwell 4)))

/-- The band by the band held and the served speed: every row of the table of R71. Where W is above C, as only before
the seal, two rows hold for some speeds: from UNKNOWN and WALK for one of C or more below W, from MID for one of C or
more below W - 5, from FAST for one of C - 5 or more below W - 5. That each of them gives FAST is the model's choice.
It rests on the model's log 17. -/
def Obligations.BandFollowsItsTable : Prop :=
  ∀ (w c v : Nat) (held : Band),
    (v < 10 → bandAt w c held v = .walk)
    ∧ (10 ≤ v → c ≤ v → bandAt w c held v = .fast)
    ∧ (10 ≤ v → v < c → held = .unknown ∨ held = .walk →
        bandAt w c held v = if w ≤ v then .mid else .walk)
    ∧ (10 ≤ v → v < c → held = .mid → bandAt w c held v = if w ≤ v + 5 then .mid else .walk)
    ∧ (10 ≤ v → v < c → held = .fast →
        bandAt w c held v = if c ≤ v + 5 then .fast else if w ≤ v + 5 then .mid else .walk)

/-! ### Fault table and stack -/

/-- REPORT of an absent code with a slot free creates the record with its operands brought into range, which is
taken or waits; a record taken at level 4 or more sends its ALERT. It rests on the model's log 18. -/
def Obligations.ReportCreatesTheRecord : Prop :=
  ∀ (code : BitVec 8) (level : BitVec 4) (fm fr : BitVec 9) (measured : Option (BitVec 16)) (s : State),
    Ready .report s → 8 ≤ code.toNat → code.toNat ≤ 23 → s.record code.toNat = none →
    s.generalFull = false →
    ReportClamps level fm fr
      ∧ ∃ t, exec (.report code level fm fr measured) s = .next t
        ∧ OnlyChanges [.start, .line, .isolation, .engine, .envelope, .link, .pins] s t
        ∧ Answers s t (Response.statusByte 4 { clamped := reportClamped level fm fr } 0)
        ∧ t.record code.toNat = some
            { code := code.toNat, level := clampLevel level, fm := min 256 fm.toNat, fr := min 256 fr.toNat,
              life := .holds, taken := decide (s.engine.cl < clampLevel level), count := 1,
              firstSeen := s.engine.beaconCount, unread := true, measured := measured, detect := none,
              folded := none, param := none }
        ∧ OtherRecords code.toNat s t
        ∧ TakenOrWaits code.toNat (clampLevel level) s t
        ∧ (if s.engine.cl < clampLevel level then AlertGiven code.toNat (clampLevel level) s t
          else t.line = s.line)
        ∧ t.isolation = { s.isolation with suspended := t.isolation.suspended }
        ∧ HandedOver s t

/-- REPORT of a present code re-raises the record: fractions tightened, count and unread mark, the condition
holding again, its level kept. It rests on the model's log 18. -/
def Obligations.ReportReraisesTheRecord : Prop :=
  ∀ (code : BitVec 8) (level : BitVec 4) (fm fr : BitVec 9) (measured : Option (BitVec 16)) (r : Record)
    (s : State),
    Ready .report s → 8 ≤ code.toNat → code.toNat ≤ 23 → s.record code.toNat = some r →
    ∃ t, exec (.report code level fm fr measured) s = .next t
      ∧ OnlyChanges [.start, .engine, .envelope, .link, .pins] s t
      ∧ Answers s t
          (Response.statusByte 4
            { clamped := reportClamped level fm fr, levelKept := decide (r.level ≠ clampLevel level) }
            (if r.level = clampLevel level then 0 else r.level.val))
      ∧ t.record code.toNat = some
          { r with
            fm := min r.fm (min 256 fm.toNat), fr := min r.fr (min 256 fr.toNat)
            measured := if measured.isSome then measured else r.measured
            count := min 255 (r.count + 1), unread := true, life := .holds }
      ∧ OtherRecords code.toNat s t
      ∧ t.engine = { s.engine with records := t.engine.records }
      ∧ HandedOver s t

/-- REPORT of an absent code with all general slots occupied is folded into OVERFLOW.
It rests on the model's log 18. -/
def Obligations.ReportFoldsIntoOverflow : Prop :=
  ∀ (code : BitVec 8) (level : BitVec 4) (fm fr : BitVec 9) (measured : Option (BitVec 16)) (s : State),
    Ready .report s → 8 ≤ code.toNat → code.toNat ≤ 23 → s.record code.toNat = none →
    s.generalFull = true →
    ∃ t, exec (.report code level fm fr measured) s = .next t
      ∧ OnlyChanges [.start, .line, .isolation, .engine, .envelope, .link, .pins] s t
      ∧ Answers s t (Response.statusByte 4 { clamped := reportClamped level fm fr, folded := true } 0)
      ∧ t.record code.toNat = none
      ∧ HandedOver s t
      ∧ (s.record 4 = none →
          t.record 4 = some
              { code := 4, level := clampLevel level, fm := min 256 fm.toNat, fr := min 256 fr.toNat,
                life := .latched, taken := decide (s.engine.cl < clampLevel level), count := 1,
                firstSeen := s.engine.beaconCount, unread := true, measured := none, detect := none,
                folded := some 1, param := none }
            ∧ OtherRecords 4 s t ∧ TakenOrWaits 4 (clampLevel level) s t)
      ∧ (∀ r, s.record 4 = some r →
          (t.record 4).map (fun x => { x with taken := r.taken }) = some
              { r with
                level := max r.level (clampLevel level)
                fm := min r.fm (min 256 fm.toNat), fr := min r.fr (min 256 fr.toNat)
                count := min 255 (r.count + 1), folded := some (min 255 (r.folded.getD 0 + 1))
                unread := true, life := .latched }
            ∧ (clampLevel level ≤ r.level →
                OtherRecords 4 s t ∧ t.engine.cl = s.engine.cl ∧ t.engine.stack = s.engine.stack))

/-- WITHDRAW ends the condition of a record that holds, and is UNAVAILABLE for every other. -/
def Obligations.WithdrawEndsTheCondition : Prop :=
  ∀ (code : BitVec 8) (s : State), Ready .withdraw s → PinsFollow s →
    (8 ≤ code.toNat ∧ code.toNat ≤ 23 ∧ (s.record code.toNat).map Record.life = some .holds →
      ∃ t, exec (.withdraw code) s = .next t
        ∧ OnlyChanges [.start, .engine, .link] s t
        ∧ Answers s t (Response.plain 5 .done)
        ∧ ConditionEnds code.toNat s t
        ∧ t.engine = { s.engine with records := t.engine.records })
    ∧ (¬(8 ≤ code.toNat ∧ code.toNat ≤ 23 ∧ (s.record code.toNat).map Record.life = some .holds) →
      exec (.withdraw code) s = .next (s.answered (Response.plain 5 .unavailable)))

/-- CLEAR removes a latched record: its frame is popped with the spent ones beneath it or marked spent, the best
waiting record above the uncovered CL is taken, and CL is the highest level left; of any other record CLEAR is BUSY,
and of an absent one UNAVAILABLE, and nothing changes. It rests on the model's log 33. -/
def Obligations.ClearRemovesOnlyLatchedRecords : Prop :=
  ∀ (code : BitVec 8) (s : State), Ready .clear s → EngineLaw s → PinsFollow s →
    ((s.record code.toNat).map Record.life = some .latched →
      ¬(s.engine.contactor = .releasing ∧ s.broughtToSeven code.toNat = true) →
      ¬(code.toNat = 4 ∧ s.generalFull = true) →
      ∃ t, exec (.clear code) s = .next t
        ∧ OnlyChanges [.start, .line, .isolation, .engine, .envelope, .link, .pins] s t
        ∧ Answers s t (Response.plain 6 .done)
        ∧ RecordGone code.toNat s t
        ∧ Unwound code.toNat s t
        ∧ HandedOver s t)
    ∧ (s.record code.toNat = none →
      exec (.clear code) s = .next (s.answered (Response.plain 6 .unavailable)))
    ∧ (∀ r, s.record code.toNat = some r →
        r.life ≠ .latched ∨ (s.engine.contactor = .releasing ∧ s.broughtToSeven code.toNat = true)
          ∨ (code.toNat = 4 ∧ s.generalFull = true) →
      exec (.clear code) s = .next (s.answered (Response.plain 6 .busy)))

/-- QUERY of a code returns its record, in the fields that R172 lists, and clears its unread mark, and nothing else
changes but ATTN; ANY returns the unread record of the highest level, then of the lowest code. ANY with no unread
record is DONE with no record; a code that is absent, and a part that there is not, are UNAVAILABLE. It rests on the
model's log 18. -/
def Obligations.QueryReturnsAndMarksRead : Prop :=
  ∀ (code part : BitVec 8) (s : State), Ready .query s → PinsFollow s → TableLaw s.engine.records →
    (∀ r : Record,
      (code ≠ 0 ∧ s.record code.toNat = some r ∧ (part = 0 ∨ part = 1)
        ∨ code = 0 ∧ part = 0 ∧ r ∈ s.engine.records ∧ r.unread = true
          ∧ ∀ x ∈ s.engine.records, x.unread = true →
              x.level < r.level ∨ (x.level = r.level ∧ r.code < x.code) ∨ x = r) →
      ∃ t, exec (.query code part) s = .next t
        ∧ OnlyChanges [.start, .engine, .link, .pins] s t
        ∧ Answers s t
            { code := 7, outcome := .doneWithStatus,
              payload := payloadOf (if part = 0 then queryRead0 r else queryRead1 r) }
        ∧ t.record r.code = some { r with unread := false }
        ∧ OtherRecords r.code s t
        ∧ t.engine = { s.engine with records := t.engine.records }
        ∧ PinsFollow t)
    ∧ (code = 0 → part = 0 → s.anyUnread = false →
      exec (.query code part) s = .next (s.answered (Response.plain 7 .done)))
    ∧ ((code ≠ 0 ∧ s.record code.toNat = none) ∨ (code = 0 ∧ part ≠ 0) ∨ (part ≠ 0 ∧ part ≠ 1) →
      exec (.query code part) s = .next (s.answered (Response.plain 7 .unavailable)))

/-- An own expiry counts every dwell down and removes the record whose dwell runs out, shown of the module's codes,
which nothing else at an expiry touches; DWELL_END removes a record whose dwell has run out, and the stack unwinds
as at a CLEAR. It rests on the model's log 6 and log 33. -/
def Obligations.DwellEndRemovesTheRecord : Prop :=
  ∀ (code : Nat) (later : List Later) (s : State), s.station.onLine = true → EngineLaw s →
    (Settled s → (s.record code).map Record.life = some (.dwell 0) →
      ∃ t, exec (.dwellEnd code) s = .next t
        ∧ OnlyChanges [.line, .isolation, .engine, .envelope, .pins] s t
        ∧ RecordGone code s t
        ∧ Unwound code s t
        ∧ HandedOver s t)
    ∧ (8 ≤ code → code ≤ 23 →
      ∃ t, exec (.ownBeaconExpiry later) s = .next t
        ∧ (t.record code).map (fun r => { r with taken := false }) =
            match s.record code with
            | none => none
            | some r =>
              match r.life with
              | .dwell n =>
                if n ≤ 1 ∧ .dwellEnd code ∉ later then none
                else some { r with life := .dwell (n - 1), taken := false }
              | _ => some { r with taken := false })

/-- TRIP_ARRIVAL at an enabled input that was not asserted: HARD-TRIP is raised and the gates are killed. -/
def Obligations.TripArrivalRaisesHardTrip : Prop :=
  ∀ (n : TripInput) (s : State), s.station = .join ∨ s.station = .run → Settled s →
    s.tripEnabled n = true → s.tripLevel n = false →
    ∃ t, exec (.tripArrival n) s = .next t
      ∧ OnlyChanges [.line, .isolation, .engine, .envelope, .trips, .pins] s t
      ∧ t.trips = s.trips ||| 1#4 <<< n.val
      ∧ HardTripRaised n s t
      ∧ HandedOver s t
      ∧ t.pins.gateKill = true

/-- A disabled input, an input already asserted and an input of a station in HOLD or CONFIG raise nothing; in
PARKED an arrival wakes the station, in PARKING it abandons the park; TRIP_DEASSERT of the last enabled input
latches HARD-TRIP. It rests on the model's log 2 and log 25. -/
def Obligations.TripInputsByStateAndEnable : Prop :=
  ∀ (n : TripInput) (s : State), Settled s → PinsFollow s → EnvelopeLaw s →
    (s.tripLevel n = true → exec (.tripArrival n) s = .next s)
    ∧ (s.tripLevel n = false → s.tripEnabled n = false ∨ s.station = .hold ∨ s.station = .config →
      exec (.tripArrival n) s = .next { s with trips := s.trips ||| 1#4 <<< n.val })
    ∧ (s.tripLevel n = false → s.tripEnabled n = true → s.station = .parked →
      ∃ t, exec (.tripArrival n) s = .next t ∧ t.station = .join ∧ t.line.wake.isSome = true
        ∧ (t.record 1).isSome = true ∧ t.pins.gateKill = true
        ∧ OnlyChanges [.start, .line, .peers, .selector, .isolation, .engine, .trips, .pins] s t)
    ∧ (s.tripLevel n = false → s.tripEnabled n = true → s.station = .parking →
      ∃ t, exec (.tripArrival n) s = .next t ∧ t.station = .run
        ∧ t.link = { s.link with responses := s.link.responses ++ [Response.plain 15 .unavailable] }
        ∧ (t.record 1).isSome = true ∧ t.pins.gateKill = true
        ∧ OnlyChanges [.start, .line, .isolation, .engine, .envelope, .link, .trips, .pins] s t)
    ∧ (s.tripLevel n = false → exec (.tripDeassert n) s = .next s)
    ∧ (s.tripLevel n = true → s.tripEnabled n = true → s.station = .join ∨ s.station = .run →
      ∃ t, exec (.tripDeassert n) s = .next t
        ∧ OnlyChanges [.engine, .trips, .pins] s t
        ∧ t.trips = s.trips &&& ~~~(1#4 <<< n.val)
        ∧ (if t.trips &&& s.config.enables = 0#4 then ConditionEnds 1 s t else t.engine = s.engine)
        ∧ t.engine = { s.engine with records := t.engine.records }
        ∧ PinsFollow t)
    ∧ (s.tripLevel n = true → s.tripEnabled n = false →
      exec (.tripDeassert n) s = .next { s with trips := s.trips &&& ~~~(1#4 <<< n.val) })

/-! ### Own timers -/

/-- OWN_BEACON_EXPIRY in JOIN, RUN and PARKING: the beacon timer starts its next period, the own beacon count
and the freshness counts go on, and a beacon joins a slot that holds none that is committed or parks. Where the
station state stays and no peer waits for probation, the beacon shows the station as the expiry leaves it: own level,
posture, CL, flags, claims and own values. Every condition that holds throughout is presented: its absent record is
raised again where a slot is free, a record present stays as it is, and a presentation is never folded. In any other
state there is no expiry.
It rests on the model's log 2, log 6, log 7, log 21, log 28, log 29 and log 30. -/
def Obligations.OwnExpiryBuildsABeacon : Prop :=
  ∀ (later : List Later) (s : State),
    (s.station.onLine = true →
      ∃ t, exec (.ownBeaconExpiry later) s = .next t
        ∧ t.config = s.config ∧ t.trips = s.trips
        ∧ (s.station = .run → t.link = s.link ∧ t.supervision = s.supervision)
        ∧ t.start.beaconTimer = some (periodMs s.config.period)
        ∧ t.engine.beaconCount = s.engine.beaconCount + 1
        ∧ t.selector.own = s.selector.own.map (fun x =>
            if x.valid then
              { x with
                fresh := min 4 (x.fresh + 1)
                valid := decide (x.fresh + 1 < 4) }
            else x)
        ∧ PinsFollow t
        ∧ (RejoinLaw s → Settled s → TableLaw s.engine.records → ConditionsLaw s → Presented s t)
        ∧ (s.line.parkingWaiting = none →
            (∀ q ∈ s.line.beacon, q.committed = false ∧ q.frame.beacon.flags.parking = false) →
          ∃ q ∈ t.line.beacon, q.attempt = 1 ∧ q.committed = false ∧ q.frame.numbered = false
            ∧ q.frame.beacon.sender = s.own ∧ q.frame.beacon.period = s.config.period
            ∧ q.frame.beacon.published.role = s.start.straps.role
            ∧ q.frame.beacon.flags.joining = decide (s.station = .join)
            ∧ q.frame.beacon.flags.parking = false
            ∧ (t.station = s.station → s.isolation.queue = [] → EngineLaw s →
                q.frame.beacon.flags.rejoin = decide (t.isolation.own = .rejoining)
                  ∧ q.frame.beacon.flags.isolated = decide (t.isolation.own ≠ .active)
                  ∧ q.frame.beacon.ownLevel = t.ownLevel ∧ q.frame.beacon.posture = t.posture
                  ∧ q.frame.beacon.cl = t.engine.cl ∧ q.frame.beacon.published = t.ownPublished
                  ∧ ClaimsOf t q.frame.beacon.claims)))
    ∧ (s.station.onLine = false → exec (.ownBeaconExpiry later) s = .next s)

/-- Own expiries in JOIN count to 4; the fourth, or ENTRY_TO_RUN after it, takes the station into RUN.
ENTRY_TO_RUN checks the roles, raises SPEED-UNKNOWN and CHARGE-INTERLOCK where they hold, places a PACK's contactor and
starts supervision in mode AUTO. That a record raised at the fourth expiry is first seen at the new own beacon count, and
that ROLE-MISSING is taken before ROLE-CONFLICT where both begin, are the model's choices.
It rests on the model's log 6, log 7, log 24 and log 32. -/
def Obligations.FourthExpiryEntersRun : Prop :=
  ∀ (later : List Later) (s : State), s.station = .join →
    (s.start.discovery < 3 →
      ∃ t, exec (.ownBeaconExpiry later) s = .next t ∧ t.station = .join
        ∧ t.start.discovery = s.start.discovery + 1
        ∧ OnlyChanges [.start, .line, .peers, .selector, .isolation, .engine, .envelope, .pins] s t)
    ∧ (3 ≤ s.start.discovery → .entryToRun ∉ later →
      ∃ t, exec (.ownBeaconExpiry later) s = .next t ∧ t.station = .run ∧ t.start.everRun = true
        ∧ ConditionsLaw t
        ∧ (t.selector.speedUnknown = true → s.record 57 = none →
            RecordCreated { code := 57, level := 5, fm := 256, fr := 256 } t)
        ∧ (t.selector.chargeHolds = true → s.record 59 = none →
            RecordCreated { code := 59, level := 6, fm := 0, fr := 0 } t)
        ∧ OnlyChanges
            [.start, .line, .peers, .selector, .isolation, .engine, .envelope, .supervision, .pins] s t)
    ∧ (4 ≤ s.start.discovery →
      ∃ t, exec .entryToRun s = .next t ∧ t.station = .run ∧ t.start.everRun = true
        ∧ OnlyChanges [.start, .line, .peers, .selector, .isolation, .engine, .envelope, .supervision, .pins] s t
        ∧ t.supervision =
            (if s.config.startMode = .auto ∧ s.supervision.running = false then
              { s.supervision with running := true, count := s.config.reload }
            else s.supervision)
        ∧ t.start.missingHeld = roleMissing s.start.population
        ∧ t.start.conflictHeld = roleConflict s.start.population
        ∧ (roleMissing s.start.population = true → s.record 54 = none → s.generalFull = false →
            ∃ r ∈ t.record 54, r.level = 6 ∧ r.fm = 0 ∧ r.fr = 128 ∧ r.life = .holds)
        ∧ ConditionsLaw t
        ∧ (Settled s →
            RecordFollows false t.selector.speedUnknown { code := 57, level := 5, fm := 256, fr := 256 } s t
              ∧ RecordFollows false t.selector.chargeHolds { code := 59, level := 6, fm := 0, fr := 0 } s t)
        ∧ (s.start.straps.role = .pack →
            t.engine.contactor = if t.engine.cl = 7 then .released else .held)
        ∧ PinsFollow t)

/-- Every own expiry lowers the clash ages by 1, and in RUN and PARKING one that comes to 0 runs the population
check. CLASH_AGE_EXPIRY in RUN runs it again: a conflict that is over ends ROLE-CONFLICT, which latches.
It rests on the model's log 6. -/
def Obligations.ClashAgeExpiryRechecksRoles : Prop :=
  ∀ (i : Station) (later : List Later) (s : State),
    (s.station.onLine = true →
      ∃ t, exec (.ownBeaconExpiry later) s = .next t
        ∧ (∀ j, t.start.population.get j =
            { role := (s.start.population.get j).role, clash := (s.start.population.get j).clash - 1 })
        ∧ (s.station.riding = true → (s.start.population.get i).clash = 1 → .clashAge i ∉ later →
            t.start.missingHeld = roleMissing t.start.population
              ∧ t.start.conflictHeld = roleConflict t.start.population))
    ∧ (s.station = .run → Settled s → PinsFollow s →
        (s.start.population.get i).clash = 0 →
        roleMissing s.start.population = s.start.missingHeld →
        (s.start.missingHeld = true → (s.record 54).isSome = true) →
        s.start.conflictHeld = true → roleConflict s.start.population = false →
      ∃ t, exec (.clashAgeExpiry i) s = .next t
        ∧ OnlyChanges [.start, .engine] s t
        ∧ t.start = { s.start with conflictHeld := false }
        ∧ ConditionEnds 53 s t
        ∧ t.engine = { s.engine with records := t.engine.records })

/-- An own expiry in RUN or PARKING ages a trusted peer: one not heard since the last expiry is a period older and
from age 2 on scores 12, and one that has aged to the loss limit is LOST; the self-contained count of the others
follows, and of an entry whose loss is left to PEER_LOSS it stays; in JOIN no entry changes. PEER_LOSS: a trusted peer
whose age has reached the loss limit becomes LOST and PEER-DOWN is raised with cause LOST at the level of its role,
the band follows the served speed, and the handover reaches the envelope and a PACK's contactor. That it is one
recomputation of the envelope, and that a contactor that returns from RELEASED to HELD has release count 0, are the
model's choices. It rests on the model's log 6, log 7, log 8, log 21 and log 33. -/
def Obligations.PeerLossRaisesPeerDown : Prop :=
  ∀ (i : Station) (later : List Later) (s : State), Settled s →
    (s.station = .run → (s.peer i).state.trusted = true → s.config.lossLimit ≤ (s.peer i).age →
      ∃ t, exec (.peerLoss i) s = .next t
        ∧ OnlyChanges [.line, .peers, .selector, .isolation, .engine, .envelope, .pins] s t
        ∧ t.peers = s.peers.set i { s.peer i with state := .lost, selfCount := 0, downCause := .lost }
        ∧ t.selector.own = s.selector.own ∧ t.selector.served = t.resolved ∧ BandFollows s t
        ∧ (s.record (32 + i.val) = none → s.generalFull = false →
            ∃ r ∈ t.record (32 + i.val),
              r.level = (match (s.start.population.get i).role with
                | some .cockpit => 6
                | some .charger => 1
                | _ => 4)
              ∧ r.fm = 256 ∧ r.fr = 256 ∧ r.life = .holds ∧ r.unread = true
              ∧ r.param = some { station := i, cause := some .lost })
        ∧ HandedOver s t)
    ∧ (s.station = .run ∨ s.station = .parking → RejoinLaw s → (s.peer i).state.trusted = true →
        (agedBy (s.peer i)).score < 192 → s.selector.speedDisputed = false →
        s.selector.voltageDisputed = false →
      ∃ t, exec (.ownBeaconExpiry later) s = .next t
        ∧ (s.config.lossLimit ≤ (agedBy (s.peer i)).age → .peerLoss i ∉ later →
            t.peer i = { agedBy (s.peer i) with state := .lost, selfCount := 0, downCause := .lost })
        ∧ (s.config.lossLimit ≤ (agedBy (s.peer i)).age → .peerLoss i ∈ later → t.peer i = agedBy (s.peer i))
        ∧ ((agedBy (s.peer i)).age < s.config.lossLimit → selfCountAfter (s.peer i) < 16 →
            t.peer i = { agedBy (s.peer i) with selfCount := selfCountAfter (s.peer i) }))
    ∧ (s.station = .join → ∃ t, exec (.ownBeaconExpiry later) s = .next t ∧ t.peers = s.peers)

/-- SELF_CONTAINED_COUNT in RUN at 16 or more, and the own expiry that brings the count to 16: the peer is muted, its
entry holds what R137 leaves, PEER-DOWN is raised with cause MUTED, the band follows the served speed, and the
handover reaches the envelope and a PACK's contactor. An own expiry whose ageing brings a score to 192 mutes the peer
by SCORE. While a loss waits to be taken SELF_CONTAINED_COUNT changes nothing. That a mute at an own expiry leaves the
full hold, that SCORE goes before SELF-CONTAINED there, that the handover is one recomputation of the envelope, and
that a contactor that returns from RELEASED to HELD has release count 0 are the model's choices. It rests on the
model's log 6, log 7, log 8, log 21 and log 33. -/
def Obligations.SelfContainedPeerIsMuted : Prop :=
  ∀ (i : Station) (later : List Later) (s : State), s.station = .run → Settled s →
    (s.peer i).state.trusted = true →
    (s.config.lossLimit ≤ (s.peer i).age → exec (.selfContainedCount i) s = .next s)
    ∧ ((s.peer i).age < s.config.lossLimit → 16 ≤ (s.peer i).selfCount →
      ∃ t, exec (.selfContainedCount i) s = .next t
        ∧ OnlyChanges [.line, .peers, .selector, .isolation, .engine, .envelope, .pins] s t
        ∧ t.peers = s.peers.set i (mutedFrom (s.peer i) .selfContained s.config.muteHold)
        ∧ t.selector.own = s.selector.own ∧ t.selector.served = t.resolved ∧ BandFollows s t
        ∧ (s.record (32 + i.val) = none → s.generalFull = false →
            ∃ r ∈ t.record (32 + i.val), r.level = downLevel (s.start.population.get i).role
              ∧ r.life = .holds ∧ r.param = some { station := i, cause := some .muted })
        ∧ HandedOver s t)
    ∧ (RejoinLaw s → s.selector.speedDisputed = false → s.selector.voltageDisputed = false →
      ∃ t, exec (.ownBeaconExpiry later) s = .next t
        ∧ (192 ≤ (agedBy (s.peer i)).score →
            t.peer i = mutedFrom (s.peer i) .score s.config.muteHold)
        ∧ ((agedBy (s.peer i)).score < 192 → (agedBy (s.peer i)).age < s.config.lossLimit →
            16 ≤ selfCountAfter (s.peer i) → .selfContained i ∉ later →
            t.peer i = mutedFrom (s.peer i) .selfContained s.config.muteHold))

/-- While the contactor is RELEASING, an own expiry in RUN and PARKING counts, and at 3 releases it, unless CL or the
drive condition moves the sequence meanwhile. RELEASE_COUNT_EXPIRY: a RELEASING contactor whose count stands at 3 is
released. It rests on the model's log 6. -/
def Obligations.ReleaseCountReleasesTheContactor : Prop :=
  ∀ (later : List Later) (s : State), s.station.riding = true → s.engine.contactor = .releasing →
    (Settled s → PinsFollow s → 3 ≤ s.engine.releaseCount →
      exec .releaseCountExpiry s = .next
        { s with
          engine := { s.engine with contactor := .released }
          pins := { s.pins with contactorHold := false } })
    ∧ ∃ t, exec (.ownBeaconExpiry later) s = .next t
        ∧ (t.engine.cl = s.engine.cl → t.driveCondition = s.driveCondition →
            t.engine.releaseCount = min 3 (s.engine.releaseCount + 1)
              ∧ t.engine.contactor =
                  if 3 ≤ s.engine.releaseCount + 1 ∧ .releaseCount ∉ later then .released else .releasing)

/-- An own expiry lowers the mute holds in RUN and PARKING, ages the places of both directive records and drops those
that come to 16, and in RUN counts the rejoin timer, whose end at 64 leaves the station ISOLATED. The READMITs owed are
given in ascending order; those the directive queue has no room for stay owed. REJOIN_TIMEOUT: a
REJOINING station whose timer stands at 64 is ISOLATED again, its readmit record is emptied and CEASED is unread.
CEASE_PLACE_EXPIRY and READMIT_PLACE_EXPIRY: the sender's places that stand at 16 leave the record, and nothing else
changes while the quorum is not met. That the READMITs owed are given before the peers' entries are aged, and so also to
a peer that leaves LIVE and SUSPECT at the same expiry, is the model's choice.
It rests on the model's log 6, log 7 and log 19. -/
def Obligations.IsolationTimersExpire : Prop :=
  ∀ (i : Station) (later : List Later) (s : State), Settled s →
    (s.station = .run → PinsFollow s → s.isolation.own = .rejoining →
      64 ≤ s.isolation.rejoinTimer.getD 0 →
      ∃ t, exec .rejoinTimeout s = .next t
        ∧ OnlyChanges [.isolation, .engine, .pins] s t
        ∧ t.isolation = { s.isolation with own := .isolated, rejoinTimer := none, readmit := [] }
        ∧ t.record 3 = (s.record 3).map (fun r => { r with unread := true })
        ∧ OtherRecords 3 s t
        ∧ t.engine = { s.engine with records := t.engine.records }
        ∧ PinsFollow t)
    ∧ (s.station.onLine = true → PinsFollow s → QuorumShort s →
      exec (.ceasePlaceExpiry i) s = .next
        { s with
          isolation := { s.isolation with
            cease := s.isolation.cease.filter (fun p => decide (p.sender ≠ i ∨ p.age < 16)) } }
      ∧ exec (.readmitPlaceExpiry i) s = .next
        { s with
          isolation := { s.isolation with
            readmit := s.isolation.readmit.filter (fun p => decide (p.sender ≠ i ∨ p.age < 16)) } })
    ∧ (s.station.onLine = true → OwedLaw s → ∃ t, exec (.ownBeaconExpiry later) s = .next t ∧ ReadmitsGiven s t)
    ∧ (s.station.onLine = true → CeasedHolds s →
      ∃ t, exec (.ownBeaconExpiry later) s = .next t
        ∧ (t.isolation.own ≠ .active ∨ s.isolation.own ≠ .rejoining →
            t.isolation.cease =
              ((s.isolation.cease.map fun p => { p with age := min 16 (p.age + 1) }).filter fun p =>
                decide (p.age < 16 ∨ .ceasePlace p.sender ∈ later)))
        ∧ (s.isolation.own ≠ .rejoining →
            t.isolation.readmit =
              ((s.isolation.readmit.map fun p => { p with age := min 16 (p.age + 1) }).filter fun p =>
                decide (p.age < 16 ∨ .readmitPlace p.sender ∈ later)))
        ∧ (s.isolation.own = .rejoining → t.isolation.own ≠ .active → s.station = .run →
            ∀ n ∈ s.isolation.rejoinTimer,
              if 64 ≤ n + 1 ∧ .rejoinTimeout ∉ later then
                t.isolation.own = .isolated ∧ t.isolation.rejoinTimer = none ∧ t.isolation.readmit = []
                  ∧ ((s.record 3).isSome = true → ∃ r ∈ t.record 3, r.unread = true)
              else
                t.isolation.own = .rejoining ∧ t.isolation.rejoinTimer = some (min 64 (n + 1))
                  ∧ t.isolation.readmit =
                      ((s.isolation.readmit.map fun p => { p with age := min 16 (p.age + 1) }).filter fun p =>
                        decide (p.age < 16 ∨ .readmitPlace p.sender ∈ later)))
        ∧ ((s.peer i).state = .muted → i ∉ s.isolation.queue →
            t.peer i =
              { s.peer i with
                muteHold :=
                  if s.station.riding then (s.peer i).muteHold.map (fun n => n - 1) else (s.peer i).muteHold }))

/-- SUPERVISION_EXPIRY of a running timer raises SUPERVISION and reloads the count; in PARKING the raise abandons the
park: the station is in RUN, PARK-ENTER completes UNAVAILABLE, and a parking beacon that waits or is not committed is
taken back. An expiry of a stopped timer, which cannot come about, does nothing.
It rests on the model's log 2, log 25 and log 29. -/
def Obligations.SupervisionExpiryRaisesAndReloads : Prop :=
  ∀ s : State, Settled s →
    (s.station = .join ∨ s.station = .run → s.supervision.running = true →
      ∃ t, exec .supervisionExpiry s = .next t
        ∧ OnlyChanges [.line, .isolation, .engine, .envelope, .supervision, .pins] s t
        ∧ t.supervision = { s.supervision with count := s.config.reload }
        ∧ SupervisionRaised s t
        ∧ HandedOver s t)
    ∧ (s.station = .parking → s.supervision.running = true →
      ∃ t, exec .supervisionExpiry s = .next t
        ∧ OnlyChanges [.start, .line, .isolation, .engine, .envelope, .supervision, .link, .pins] s t
        ∧ t.supervision = { s.supervision with count := s.config.reload }
        ∧ t.station = .run
        ∧ t.link = { s.link with responses := s.link.responses ++ [Response.plain 15 .unavailable] }
        ∧ t.line.parkingWaiting = none
        ∧ t.line.beacon =
            (match s.line.beacon with
            | some q => if q.frame.beacon.flags.parking = true ∧ q.committed = false then none else some q
            | none => none)
        ∧ (∃ r ∈ t.record 2, r.life = .latched ∧ r.unread = true)
        ∧ PinsFollow t)
    ∧ (s.supervision.running = false → exec .supervisionExpiry s = .next s)

/-- RISE_TIMER_EXPIRY: the output rises by its step, bounded by its target, the timer stops at the target, and
a change sets the flag. It rests on the model's log 29. -/
def Obligations.RiseTimerStepsTheOutput : Prop :=
  ∀ s : State, Settled s → EnvelopeLaw s →
    (s.envelope.motoringTimer.isSome = true →
      ∃ t, exec (.riseTimerExpiry .motoring) s = .next t
        ∧ OnlyChanges [.envelope, .pins] s t
        ∧ t.envelope =
            { s.envelope with
              om := min s.envelope.tm (s.envelope.om + s.config.motoringRise)
              motoringTimer :=
                if s.envelope.tm ≤ s.envelope.om + s.config.motoringRise then none else some 2
              changed := s.envelope.changed || decide (0 < s.config.motoringRise) }
        ∧ PinsFollow t)
    ∧ (s.envelope.regenTimer.isSome = true →
      ∃ t, exec (.riseTimerExpiry .regen) s = .next t
        ∧ OnlyChanges [.envelope, .pins] s t
        ∧ t.envelope =
            { s.envelope with
              outr := min s.envelope.tr (s.envelope.outr + s.config.regenRise)
              regenTimer :=
                if s.envelope.tr ≤ s.envelope.outr + s.config.regenRise then none else some 2
              changed := s.envelope.changed || decide (0 < s.config.regenRise) }
        ∧ PinsFollow t)

/-! ### Envelope -/

/-- The posture-band motoring fraction and the posture-band regenerative fraction: every cell of the two tables,
and UNKNOWN is the least of its row. -/
def Obligations.PostureBandFractionTables : Prop :=
  ((∀ b, motoringFraction .normal b = 256)
    ∧ motoringFraction .trim .walk = 256 ∧ motoringFraction .trim .mid = 192
    ∧ motoringFraction .trim .fast = 160 ∧ motoringFraction .trim .unknown = 160
    ∧ motoringFraction .limp .walk = 160 ∧ motoringFraction .limp .mid = 112
    ∧ motoringFraction .limp .fast = 64 ∧ motoringFraction .limp .unknown = 64
    ∧ motoringFraction .crawl .walk = 96 ∧ motoringFraction .crawl .mid = 0
    ∧ motoringFraction .crawl .fast = 0 ∧ motoringFraction .crawl .unknown = 0
    ∧ (∀ b, motoringFraction .coast b = 0) ∧ (∀ b, motoringFraction .safeStop b = 0)
    ∧ (∀ b, motoringFraction .isolated b = 0)
    ∧ ∀ p, motoringFraction p .unknown
        = min (motoringFraction p .walk) (min (motoringFraction p .mid) (motoringFraction p .fast)))
    ∧ (∀ b, regenFraction .normal b = 256) ∧ (∀ b, regenFraction .trim b = 256)
    ∧ regenFraction .limp .walk = 128 ∧ regenFraction .limp .mid = 192
    ∧ regenFraction .limp .fast = 192 ∧ regenFraction .limp .unknown = 128
    ∧ regenFraction .crawl .walk = 64 ∧ regenFraction .crawl .mid = 128
    ∧ regenFraction .crawl .fast = 128 ∧ regenFraction .crawl .unknown = 64
    ∧ regenFraction .coast .walk = 64 ∧ regenFraction .coast .mid = 128
    ∧ regenFraction .coast .fast = 160 ∧ regenFraction .coast .unknown = 64
    ∧ (∀ b, regenFraction .safeStop b = 0) ∧ (∀ b, regenFraction .isolated b = 0)
    ∧ ∀ p, regenFraction p .unknown
        = min (regenFraction p .walk) (min (regenFraction p .mid) (regenFraction p .fast))

/-- The two targets in RUN, step by step, and their bounds. -/
def Obligations.TargetsFollowTheirSteps : Prop :=
  ∀ x : EnvelopeInputs, x.running = true →
    (x.brakeApplied = true ∨ x.contactorClosed = false → x.motoringTarget = 0)
    ∧ (x.brakeApplied = false → x.contactorClosed = true →
        x.motoringTarget =
          min (x.nominalMotoring * min (motoringFraction x.posture x.band) x.fmMin / 256) x.discharge)
    ∧ (x.contactorClosed = false → x.regenTarget = 0)
    ∧ (x.contactorClosed = true →
        x.regenTarget =
          min (x.nominalRegen * min (regenFraction x.posture x.band) x.frMin / 256) x.acceptance)
    ∧ x.motoringTarget ≤ x.nominalMotoring ∧ x.regenTarget ≤ x.nominalRegen
    ∧ (x.nominalMotoring ≤ 1023 → x.motoringTarget ≤ 1023) ∧ (x.nominalRegen ≤ 1023 → x.regenTarget ≤ 1023)
    ∧ (x.posture = .coast ∨ x.posture = .safeStop ∨ x.posture = .isolated ∨ x.nominalMotoring = 0 →
        x.motoringTarget = 0)

/-! ### Parking and waking -/

/-- PARK_ARM in RUN arms the park acceptor. PARK_ENTER is accepted when every condition holds: the station
enters PARKING, the parking beacon is given to the slot, the envelope falls to 0 and no response joins yet.
Otherwise it is UNAVAILABLE. It rests on the model's log 10. -/
def Obligations.ParkingIsArmedAndEntered : Prop :=
  ∀ s : State, PinsFollow s → s.supervision.firstToken = false →
    (s.station = .run →
      exec .parkArm s = .next
        { s.answered (Response.plain 14 .done) with start := { s.start with parkArmed := true } })
    ∧ (s.station = .run → s.start.parkArmed = true → s.anyUnread = false →
        (∀ r ∈ s.engine.records, r.level < 3) → (∃ v ∈ s.selector.served.speed, v.value < 10) →
        s.config.strict = false →
      ∃ t, exec .parkEnter s = .next t
        ∧ OnlyChanges [.start, .line, .envelope, .link, .pins] s t
        ∧ t.start = { s.start with station := .parking, parkArmed := false }
        ∧ t.link =
            { responses := s.link.responses.tail, restartArmed := false, out := some s.nextOut }
        ∧ t.envelope =
            { tm := 0, tr := 0, om := 0, outr := 0, motoringTimer := none, regenTimer := none,
              changed := s.envelope.changed || decide (s.envelope.om ≠ 0 ∨ s.envelope.outr ≠ 0) }
        ∧ t.line = s.line.hold (fun h =>
            if slotCommitted h.beacon then { h with parkingWaiting := some (s.buildBeacon false true) }
            else
              { h with
                beacon := some
                  { frame := { beacon := s.buildBeacon false true, numbered := false },
                    attempt := 1, committed := false } })
        ∧ t.pins = { s.pins with gateKill := true, lamp := true, attn := t.envelope.changed })
    ∧ (s.station ≠ .parking →
        s.start.parkArmed = false ∨ s.station ≠ .run ∨ s.anyUnread = true
          ∨ (∃ r ∈ s.engine.records, 3 ≤ r.level) ∨ (∀ v ∈ s.selector.served.speed, 10 ≤ v.value)
          ∨ s.config.strict = true →
      exec .parkEnter s = .next (s.answered (Response.plain 15 .unavailable)))

/-- In PARKED a WAKE request, and a good WAKE frame of any sender, take the station to JOIN with discovery
from 0, the beacon timer started, the heard marks and the persistence reset, and the band worked out afresh where the
speed check was disputed; the request also gives a WAKE to
the wake slot, and a frame with the own number sets the own clash age. It rests on the model's log 35. -/
def Obligations.WakingEntersJoin : Prop :=
  ∀ (i : Station) (s : State), s.station = .parked → PinsFollow s → EnvelopeLaw s → Settled s →
    (s.supervision.firstToken = false →
      ∃ t, exec .wakeRequest s = .next t
        ∧ OnlyChanges [.start, .line, .peers, .selector, .link, .pins] s t
        ∧ t.start = { s.start with
            station := .join, discovery := 0, beaconTimer := some (periodMs s.config.period), parkArmed := false }
        ∧ t.link = s.linkAfter (Response.plain 16 .done) false
        ∧ t.line = { s.line with wake :=
            match s.line.wake with
            | some q => some q
            | none => some { frame := s.own, attempt := 1, committed := false } }
        ∧ t.peers = s.peers.map (fun e => { e with heard := false })
        ∧ t.selector = joined s.config s.selector
        ∧ PinsFollow t)
    ∧ ∃ t, exec (.wakeFrameReceived i) s = .next t
        ∧ OnlyChanges [.start, .peers, .selector, .pins] s t
        ∧ t.start = { s.start with
            station := .join, discovery := 0, beaconTimer := some (periodMs s.config.period)
            population :=
              if i = s.own then
                s.start.population.set i { s.start.population.get i with clash := 16 }
              else s.start.population }
        ∧ t.peers = s.peers.map (fun e => { e with heard := false })
        ∧ t.selector = joined s.config s.selector
        ∧ PinsFollow t

/-! ### Sending -/

/-- ATTEMPT_START offers the committed frame, else the head of the best-ranked queue that is not empty, in PARKED a
WAKE alone, and nothing while an attempt, a stuck line or the station state forbids it; a beacon takes its sequence
number at its first attempt. LOST_CONTENTION leaves the frame with the commitment it had, and what was given during
the attempt stands as though the frame had not been attempted. A full alert queue gives up its oldest lowest alert
that is not committed. It rests on the model's log 2 and log 9. -/
def Obligations.AttemptsOfferTheCommittedOrBestFrame : Prop :=
  (∀ (a : Alert) (l : List (Queued Alert)), AlertRule a l)
  ∧ ∀ s : State,
    (s.offered = none → exec .attemptStart s = .next s)
    ∧ (s.line.attempt = none → s.line.stuck = .clear → s.station.onLine = true → (∃ k, headOf s.line k ≠ none) →
        s.offered ≠ none)
    ∧ (s.line.attempt = none → s.line.stuck = .clear → s.station = .parked → s.line.wake ≠ none →
        s.offered ≠ none)
    ∧ (∀ k, s.offered = some k →
        (s.station ≠ .parked → OfferedByRank s.line k)
        ∧ (s.station = .parked → k = .wake)
        ∧ s.station ≠ .hold ∧ s.station ≠ .config ∧ s.line.attempt = none ∧ s.line.stuck = .clear
        ∧ ∃ t, exec .attemptStart s = .next t
          ∧ OnlyChanges [.line] s t
          ∧ t.line.attempt.map Attempt.queue = some k
          ∧ headOf t.line k = some true
          ∧ t.line.alerts.map Queued.frame = s.line.alerts.map Queued.frame
          ∧ t.line.directives.map Queued.frame = s.line.directives.map Queued.frame
          ∧ t.line.wake.map Queued.frame = s.line.wake.map Queued.frame
          ∧ t.line.beacon.map Queued.frame =
              (if k = .beacon then s.line.beacon.map (fun q =>
                  if q.frame.numbered then q.frame
                  else { beacon := { q.frame.beacon with sequence := s.line.sequence }, numbered := true })
                else s.line.beacon.map Queued.frame)
          ∧ t.line.sequence = s.line.sequence ∧ t.line.txFailures = s.line.txFailures
          ∧ ∀ f : HeldFrames → HeldFrames,
              exec .lostContention (t.hold f) = .next
                ((s.setLine
                  { s.line with
                    beacon := s.line.beacon.map (fun q =>
                      if k = .beacon ∧ q.frame.numbered = false then
                        { q with frame :=
                          { beacon := { q.frame.beacon with sequence := s.line.sequence }, numbered := true } }
                      else q) }).hold f))
    ∧ (∀ a, s.line.attempt = some a →
      ∃ t, exec .lostContention s = .next t
        ∧ OnlyChanges [.line] s t
        ∧ t.line =
            { s.line.commitAt a.wasCommitted a.queue with
              attempt := none, alerts := a.ifLost.alerts, beacon := a.ifLost.beacon
              parkingWaiting := a.ifLost.parkingWaiting })
    ∧ (s.line.attempt = none → exec .lostContention s = .next s)

/-- ATTEMPT_SUCCESS: the frame leaves its queue, the transmit-failure counter returns to 0, a sent beacon
advances the sequence counter; TX-FAIL ends if it held; a parking beacon that waits enters the slot behind a sent
beacon; and a sent parking beacon takes the station to PARKED, where BRAKE-THROTTLE, SPEED-UNKNOWN and
CHARGE-INTERLOCK hold no longer, and the CEASEs and READMITs that are discarded there are owed again.
It rests on the model's log 10, log 35 and log 36. -/
def Obligations.SuccessSendsTheFrame : Prop :=
  ∀ (a : Attempt) (s : State), s.line.attempt = some a → Settled s → PinsFollow s →
    ((a.queue = .beacon → s.station ≠ .parking ∧ s.line.parkingWaiting = none) →
      ∃ t, exec .attemptSuccess s = .next t
        ∧ OnlyChanges [.line, .engine] s t
        ∧ t.line =
            (match a.queue with
            | .alert => { s.line with attempt := none, txFailures := 0, alerts := s.line.alerts.tail }
            | .directive =>
              { s.line with attempt := none, txFailures := 0, directives := s.line.directives.tail }
            | .beacon =>
              { s.line with
                attempt := none, txFailures := 0, beacon := none
                sequence := if s.line.beacon.isSome then s.line.sequence + 1 else s.line.sequence }
            | .wake => { s.line with attempt := none, txFailures := 0, wake := none })
        ∧ t.engine = { s.engine with records := t.engine.records }
        ∧ (if 8 ≤ s.line.txFailures then ConditionEnds 52 s t else t.engine = s.engine))
    ∧ (∀ b ∈ s.line.parkingWaiting, a.queue = .beacon → s.line.beacon.isSome = true →
      ∃ t, exec .attemptSuccess s = .next t
        ∧ OnlyChanges [.line, .engine] s t
        ∧ t.line =
            { s.line with
              attempt := none, txFailures := 0, parkingWaiting := none, sequence := s.line.sequence + 1
              beacon := some
                { frame := { beacon := b, numbered := false }, attempt := 1, committed := false } }
        ∧ t.engine = { s.engine with records := t.engine.records }
        ∧ (if 8 ≤ s.line.txFailures then ConditionEnds 52 s t else t.engine = s.engine))
    ∧ (s.station = .parking → a.queue = .beacon → s.line.parkingWaiting = none → s.line.txFailures < 8 →
        (s.line.beacon.map fun q => q.frame.beacon.flags.parking) = some true →
      ∃ t, exec .attemptSuccess s = .next t
        ∧ OnlyChanges [.start, .line, .peers, .selector, .isolation, .engine, .supervision, .link, .pins] s t
        ∧ t.start = { s.start with station := .parked, beaconTimer := none }
        ∧ t.selector = { s.selector with brakeHolds := false, speedUnknown := false, chargeHolds := false }
        ∧ t.line = { s.line with
            attempt := none, txFailures := 0, beacon := none, alerts := [], directives := []
            sequence := s.line.sequence + 1 }
        ∧ DirectivesLost (s.line.directives.map Queued.frame) s t
        ∧ t.isolation = { s.isolation with owed := t.isolation.owed }
        ∧ t.engine = { s.engine with contactor := .released, releaseCount := 0 }
        ∧ t.supervision =
            (if s.supervision.strict then s.supervision
            else { s.supervision with running := false, firstToken := false })
        ∧ t.link = { s.link with responses := s.link.responses ++ [Response.plain 15 .done] }
        ∧ t.pins = { gateKill := true, lamp := false, contactorHold := false,
                     attn := s.anyUnread || s.envelope.changed })

/-- ATTEMPT_FAILURE: below its third attempt the frame stays committed with a higher attempt count, at its third it is
dropped, and a CEASE or READMIT that is dropped is owed again; the failure counter rises, and TX-FAIL is raised as it
comes to 8. In PARKING a parking beacon that waits enters the slot behind a dropped beacon, and the drop of the
parking beacon itself, or the raise of TX-FAIL, abandons the park. It rests on the model's log 10 and log 25. -/
def Obligations.FailureRetriesThenDrops : Prop :=
  ∀ (a : Attempt) (s : State), s.line.attempt = some a → Settled s → s.generalFull = false →
    (s.station.onLine = true → (s.station = .parking → s.line.txFailures ≠ 7) →
      (a.queue = .beacon → (∀ q ∈ s.line.beacon, q.attempt < 3)
        ∨ s.station ≠ .parking ∧ s.line.parkingWaiting = none) →
      ∃ t, exec .attemptFailure s = .next t
        ∧ OnlyChanges [.line, .peers, .isolation, .engine, .envelope, .pins] s t
        ∧ t.line =
            (match a.queue with
            | .alert =>
              { s.line with
                attempt := none, txFailures := min 255 (s.line.txFailures + 1)
                alerts := match s.line.alerts with
                  | [] => []
                  | q :: rest =>
                    if q.attempt < 3 then { q with attempt := q.attempt + 1, committed := true } :: rest
                    else rest }
            | .directive =>
              { s.line with
                attempt := none, txFailures := min 255 (s.line.txFailures + 1)
                directives := match s.line.directives with
                  | [] => []
                  | q :: rest =>
                    if q.attempt < 3 then { q with attempt := q.attempt + 1, committed := true } :: rest
                    else rest }
            | .beacon =>
              { s.line with
                attempt := none, txFailures := min 255 (s.line.txFailures + 1)
                beacon := match s.line.beacon with
                  | none => none
                  | some q =>
                    if q.attempt < 3 then some { q with attempt := q.attempt + 1, committed := true }
                    else none }
            | .wake =>
              { s.line with
                attempt := none, txFailures := min 255 (s.line.txFailures + 1)
                wake := match s.line.wake with
                  | none => none
                  | some q =>
                    if q.attempt < 3 then some { q with attempt := q.attempt + 1, committed := true }
                    else none })
        ∧ (s.line.txFailures = 7 → s.record 52 = none →
            PartRaised { code := 52, level := 4, fm := 256, fr := 256 } s t ∧ HandedOver s t)
        ∧ (s.line.txFailures ≠ 7 → t.engine = s.engine)
        ∧ DirectivesLost (droppedBy a s) s t)
    ∧ (∀ b ∈ s.line.parkingWaiting, ∀ q ∈ s.line.beacon, s.station = .parking → a.queue = .beacon →
        3 ≤ q.attempt → s.line.txFailures ≠ 7 →
      ∃ t, exec .attemptFailure s = .next t
        ∧ OnlyChanges [.line, .pins] s t
        ∧ t.line =
            { s.line with
              attempt := none, txFailures := min 255 (s.line.txFailures + 1), parkingWaiting := none
              beacon := some
                { frame := { beacon := b, numbered := false }, attempt := 1, committed := false } })
    ∧ (s.station = .parking → AttemptsFit s →
        s.line.txFailures = 7
          ∨ a.queue = .beacon ∧ s.line.parkingWaiting = none
            ∧ (∃ q ∈ s.line.beacon, q.frame.beacon.flags.parking = true ∧ 3 ≤ q.attempt) →
      ∃ t, exec .attemptFailure s = .next t
        ∧ OnlyChanges [.start, .line, .peers, .isolation, .engine, .envelope, .link, .pins] s t
        ∧ t.station = .run
        ∧ t.link = { s.link with responses := s.link.responses ++ [Response.plain 15 .unavailable] }
        ∧ t.line.attempt = none ∧ t.line.txFailures = min 255 (s.line.txFailures + 1)
        ∧ t.line.parkingWaiting = none
        ∧ (∀ q ∈ t.line.beacon, q.frame.beacon.flags.parking = true → q.committed = true ∧ q.attempt ≤ 3)
        ∧ DirectivesLost (droppedBy a s) s t
        ∧ PinsFollow t)
    ∧ (s.station = .parked → a.queue = .wake →
      ∃ t, exec .attemptFailure s = .next t
        ∧ OnlyChanges [.line, .pins] s t
        ∧ t.line =
            { s.line with
              attempt := none, txFailures := min 255 (s.line.txFailures + 1)
              wake := match s.line.wake with
                | none => none
                | some q =>
                  if q.attempt < 3 then some { q with attempt := q.attempt + 1, committed := true }
                  else none })

/-! ### Receiving -/

/-- BEACON_RECEIVED that finds the entry ABSENT, or LIVE or SUSPECT with no restart and no parking: the population
record takes the role, its check running again in RUN where the place changed; the fields are stored, the score follows
the sequence gap with its thresholds, or is 0 at the first beacon, and the served values follow, the band with the
served speed; the handover reaches the envelope and a PACK's contactor. A missing role that is heard ends ROLE-MISSING,
which latches. The records of the entry are evaluated: CONFIG-MISMATCH is raised as the period begins to differ and ended
as it agrees, PEER-POSTURE follows the adopted level, PEER-DOWN stays; in RUN SPEED-UNKNOWN and CHARGE-INTERLOCK follow
the served values. A gap that brings the score to 192 or more in RUN mutes the peer by SCORE instead: its entry holds
what R137 leaves, PEER-DOWN is raised with cause MUTED, and PEER-POSTURE and CONFIG-MISMATCH end. That these two move by
the beacon before the mute ends them, that PEER-DOWN has the level of the role the same beacon brings, that the handover
is one recomputation of the envelope, and that a contactor that returns from RELEASED to HELD has release count 0 are
the model's choices. It rests on the model's log 8, log 11, log 15, log 32 and log 33. -/
def Obligations.BeaconIsStoredAndScored : Prop :=
  ∀ (b : Beacon) (s : State), s.station = .join ∨ s.station = .run → Settled s → b.wf = true →
    b.sender ≠ s.own →
    ((s.peer b.sender).state = .absent
      ∨ (s.peer b.sender).state.trusted = true ∧ b.flags.parking = false
        ∧ (b.flags.joining = false ∨ (s.peer b.sender).flags.joining = true)) →
    ∃ t, exec (.beaconReceived b) s = .next t
      ∧ OnlyChanges [.start, .line, .peers, .selector, .isolation, .engine, .envelope, .pins] s t
      ∧ t.line.lineErrors = s.line.lineErrors - 1
      ∧ t.selector.own = s.selector.own ∧ t.selector.served = t.resolved ∧ BandFollows s t
      ∧ RoleHeard b.sender b.published.role s t
      ∧ t.peers = s.peers.set b.sender
          (if (s.peer b.sender).state = .absent then
            { storedFrom (s.peer b.sender) b with
              state := if b.flags.parking then .parked else .live, score := 0 }
          else if mutesBy s (s.peer b.sender) b then
            mutedFrom (storedFrom (s.peer b.sender) b) .score s.config.muteHold
          else
            byThresholds
              { storedFrom (s.peer b.sender) b with score := scoredBy (s.peer b.sender) b })
      ∧ (∀ r ∈ s.record 54, r.life = .holds → 5 ≤ r.level → s.start.missingHeld = true →
          t.start.missingHeld = false → (t.record 54).map Record.life = some .latched)
      ∧ (if (s.peer b.sender).state ≠ .absent ∧ mutesBy s (s.peer b.sender) b = true then
          MutedAtBeacon b (s.peer b.sender) s t
        else
          (TableLaw s.engine.records → EntryRecords b.sender (s.peer b.sender) (t.peer b.sender) s t)
            ∧ RecordStays (32 + b.sender.val) s t)
      ∧ (s.station = .run → ConditionsLaw s → ConditionsLaw t ∧ SelectorRecords s t)
      ∧ HandedOver s t

/-- BEACON_RECEIVED by the entry it finds. LIVE or SUSPECT: one that newly sets JOINING makes it LOST with cause
RESTARTED and the peer asks for probation; one that sets PARKING makes it PARKED. PARKED: it is scored, and with
PARKING clear the peer is LIVE or SUSPECT again, or muted by SCORE where a score of 192 or more meets RUN. LOST: it is
stored and the peer asks for probation, with PARKING set too. MUTED: sequence, flags and frames follow, a CEASE that
is owed is given, and with the hold at 0 the peer asks for probation by REJOIN, JOINING or a clear ISOLATED flag. A
peer that asks joins the rejoin queue once and starts its probation where none runs. A restart raises PEER-DOWN with
cause RESTARTED, and again with cause PROBATION where its probation starts; PEER-POSTURE and CONFIG-MISMATCH end as a
peer restarts or parks and begin as one returns. That PEER-DOWN has the level of the role the same beacon brings, that
a beacon which mutes moves the entry's records first, that the handover is one recomputation of the envelope, and that
a contactor that returns from RELEASED to HELD has release count 0 are the model's choices. It rests on the model's
log 8, log 11, log 12, log 13, log 15, log 21, log 32, log 33 and log 37. -/
def Obligations.BeaconRestartsOrParksThePeer : Prop :=
  ∀ (b : Beacon) (e : PeerEntry) (s : State), s.station = .join ∨ s.station = .run → Settled s → RejoinLaw s →
    b.wf = true → b.sender ≠ s.own → e = s.peer b.sender →
    (e.state.trusted = true → b.flags.joining = true → e.flags.joining = false →
      ∃ t, exec (.beaconReceived b) s = .next t
        ∧ AsksForProbation b.sender
            { storedFrom e b with state := .lost, selfCount := 0, downCause := .restarted } s t
        ∧ (TableLaw s.engine.records → EntryRecords b.sender e (t.peer b.sender) s t)
        ∧ (if s.isolation.probation = none then RecordRaised 2 (peerDownOf t b.sender .probation) s t
          else RecordRaised 1 (peerDownOf t b.sender .restarted) s t)
        ∧ t.selector.own = s.selector.own ∧ t.selector.served = t.resolved ∧ BandFollows s t
        ∧ OnlyChanges [.start, .line, .peers, .selector, .isolation, .engine, .envelope, .pins] s t
        ∧ HandedOver s t)
    ∧ (e.state.trusted = true → b.flags.parking = true → b.flags.joining = false ∨ e.flags.joining = true →
      ∃ t, exec (.beaconReceived b) s = .next t
        ∧ AsksNothing b.sender
            { storedFrom e b with state := .parked, selfCount := 0, score := scoredBy e b } s t
        ∧ (TableLaw s.engine.records → EntryRecords b.sender e (t.peer b.sender) s t)
        ∧ t.selector.own = s.selector.own ∧ t.selector.served = t.resolved ∧ BandFollows s t
        ∧ OnlyChanges [.start, .line, .peers, .selector, .isolation, .engine, .envelope, .pins] s t
        ∧ HandedOver s t)
    ∧ (e.state = .parked →
      ∃ t, exec (.beaconReceived b) s = .next t
        ∧ AsksNothing b.sender
            (if mutesBy s e b then mutedFrom (storedFrom e b) .score s.config.muteHold
            else
              byThresholds { storedFrom e b with
                state := if b.flags.parking then .parked else .live, score := scoredBy e b }) s t
        ∧ (if mutesBy s e b = true then MutedAtBeacon b e s t
          else TableLaw s.engine.records → EntryRecords b.sender e (t.peer b.sender) s t)
        ∧ t.selector.own = s.selector.own ∧ t.selector.served = t.resolved ∧ BandFollows s t
        ∧ OnlyChanges [.start, .line, .peers, .selector, .isolation, .engine, .envelope, .pins] s t
        ∧ HandedOver s t)
    ∧ (e.state = .lost →
      ∃ t, exec (.beaconReceived b) s = .next t
        ∧ AsksForProbation b.sender (storedFrom e b) s t
        ∧ OnlyChanges [.start, .line, .peers, .isolation, .engine, .envelope, .pins] s t
        ∧ HandedOver s t)
    ∧ (e.state = .muted →
      ∃ t, exec (.beaconReceived b) s = .next t
        ∧ (MutedAsks e b → AsksForProbation b.sender (mutedHeard e b s.line.directives) s t)
        ∧ (¬MutedAsks e b → AsksNothing b.sender (mutedHeard e b s.line.directives) s t)
        ∧ t.line.directives = ceaseGiven b.sender e s.line.directives
        ∧ OnlyChanges [.start, .line, .peers, .isolation, .engine, .envelope, .pins] s t
        ∧ HandedOver s t)

/-- BEACON_RECEIVED of the peer in probation, alone in the rejoin queue, in RUN. While the station is not suspended a
clean beacon, the next in sequence, counts, and the eighth makes the entry LIVE with score 48 and a READMIT is given or
owed; while it is suspended, and at a repeated beacon, the count is held. A gap, a probation level of 7, a rejoin given
up or a restart fails the probation, and the peer is muted again with a CEASE owed to it. A parking beacon of origin
LOST abandons it. Rejoining peers set REJOIN and ISOLATED together and are judged by their claims other than CEASED;
the others are judged by their own level. That the handover is one recomputation of the envelope, and that a contactor
that returns from RELEASED to HELD has release count 0, are the model's choices.
It rests on the model's log 8, log 14 and log 33. -/
def Obligations.ProbationCountsCleanBeacons : Prop :=
  ∀ (b : Beacon) (p : Probation) (e : PeerEntry) (s : State), s.station = .run → Settled s → RejoinLaw s →
    b.wf = true → b.sender ≠ s.own → s.isolation.probation = some p → p.station = b.sender →
    s.isolation.queue = [b.sender] → e = s.peer b.sender →
    (¬FailsProbation p e b → ¬ParksOnProbation p b → gapOf e b = 1 → s.isolation.suspended = false →
        p.clean < 7 →
      ∃ t, exec (.beaconReceived b) s = .next t
        ∧ OnlyChanges [.start, .line, .peers, .selector, .isolation, .engine, .envelope, .pins] s t
        ∧ BandFollows s t ∧ HandedOver s t
        ∧ t.isolation.probation = some { p with clean := p.clean + 1 }
        ∧ t.isolation.queue = [b.sender]
        ∧ t.peers = s.peers.set b.sender { storedFrom e b with score := scoredBy e b })
    ∧ (¬FailsProbation p e b → ¬ParksOnProbation p b → gapOf e b = 1 → s.isolation.suspended = false →
        7 ≤ p.clean →
      ∃ t, exec (.beaconReceived b) s = .next t
        ∧ OnlyChanges [.start, .line, .peers, .selector, .isolation, .engine, .envelope, .pins] s t
        ∧ BandFollows s t ∧ HandedOver s t
        ∧ t.isolation.probation = none ∧ t.isolation.queue = []
        ∧ t.peers = s.peers.set b.sender
            { storedFrom e b with state := .live, score := 48, muteReason := none, selfCount := 0 }
        ∧ (b.sender ∈ t.isolation.owed ∨ ∃ q ∈ t.line.directives, q.frame = .readmit b.sender))
    ∧ (¬FailsProbation p e b → ¬ParksOnProbation p b → gapOf e b = 0 ∨ s.isolation.suspended = true →
      ∃ t, exec (.beaconReceived b) s = .next t
        ∧ OnlyChanges [.start, .line, .peers, .selector, .isolation, .engine, .envelope, .pins] s t
        ∧ BandFollows s t ∧ HandedOver s t
        ∧ t.isolation.probation = some p ∧ t.isolation.queue = [b.sender]
        ∧ t.peers = s.peers.set b.sender { storedFrom e b with score := scoredBy e b })
    ∧ (FailsProbation p e b → ¬ParksOnProbation p b →
      ∃ t, exec (.beaconReceived b) s = .next t
        ∧ OnlyChanges [.start, .line, .peers, .selector, .isolation, .engine, .envelope, .pins] s t
        ∧ BandFollows s t ∧ HandedOver s t
        ∧ t.isolation.probation = none ∧ t.isolation.queue = []
        ∧ t.peers = s.peers.set b.sender
            (mutedFrom { e with lastSeq := b.sequence, flags := b.flags } (e.muteReason.getD .score)
              s.config.muteHold))
    ∧ (ParksOnProbation p b →
      ∃ t, exec (.beaconReceived b) s = .next t
        ∧ OnlyChanges [.start, .line, .peers, .selector, .isolation, .engine, .envelope, .pins] s t
        ∧ BandFollows s t ∧ HandedOver s t
        ∧ t.isolation.probation = none ∧ t.isolation.queue = []
        ∧ t.peers = s.peers.set b.sender
            { storedFrom e b with
              state := .lost, score := scoredBy e b, muteReason := none, downCause := .lost })

/-- ALERT_RECEIVED from a LIVE or SUSPECT peer stores its own level and nothing else of the entry, and PEER-POSTURE
follows the adopted level: 4 of an ISOLATED peer, else the own level and 6 at most. Absent, the record is raised at
that level. Present, a higher level replaces it by a new record; a lower one, or none, ends a condition that held; a
record whose condition had ended is raised again at its own level and left alone at a lower one. A level that stays
changes no record that is present. An ALERT from a LOST peer stores the own level and raises nothing, one from an ABSENT
or PARKED peer changes nothing in the entry, and one from the peer in probation, alone in the rejoin queue, stores the
own level, or fails the probation where it gives level 7. It rests on the model's log 15. -/
def Obligations.AlertStoresTheOwnLevel : Prop :=
  ∀ (a : Alert) (e : PeerEntry) (s : State), s.station = .join ∨ s.station = .run → Settled s → a.wf = true →
    a.sender ≠ s.own → e = s.peer a.sender →
    (e.state.trusted = true → ∃ t, exec (.alertReceived a) s = .next t
      ∧ OnlyChanges [.line, .peers, .isolation, .engine, .envelope, .pins] s t
      ∧ t.line.lineErrors = s.line.lineErrors - 1
      ∧ t.peers = s.peers.set a.sender { e with ownLevel := a.ownLevel }
      ∧ HandedOver s t
      ∧ (s.line.degraded = false →
          (s.generalFull = false → s.record (38 + a.sender.val) = none →
            ∀ l ∈ adoptedFrom e.flags.isolated a.ownLevel,
              PartRaised
                { code := 38 + a.sender.val, level := l, fm := 256, fr := 256,
                  param := some { station := a.sender, cause := none } } s t)
          ∧ (adoptedFrom e.flags.isolated a.ownLevel ≠ adoptedFrom e.flags.isolated e.ownLevel →
            EngineLaw s → ∀ r ∈ s.record (38 + a.sender.val),
              (∀ l ∈ adoptedFrom e.flags.isolated a.ownLevel, r.level < l →
                (t.record (38 + a.sender.val)).map (fun x => { x with taken := false }) = some
                    { code := 38 + a.sender.val, level := l, fm := 256, fr := 256, life := .holds
                      taken := false, count := 1, firstSeen := s.engine.beaconCount, unread := true
                      measured := none, detect := none, folded := none
                      param := some { station := a.sender, cause := none } }
                  ∧ (∀ c, c ≠ 38 + a.sender.val →
                      (t.record c).map (fun x => { x with taken := false })
                        = (s.record c).map fun x => { x with taken := false })
                  ∧ t.engine.cl = highestLevel t.engine.records)
              ∧ ((∀ l ∈ adoptedFrom e.flags.isolated a.ownLevel, l < r.level) → r.life = .holds →
                ConditionEnds (38 + a.sender.val) s t)
              ∧ (adoptedFrom e.flags.isolated a.ownLevel = some r.level → r.life ≠ .holds →
                t.record (38 + a.sender.val) = some
                    { r with
                      count := min 255 (r.count + 1), unread := true, life := .holds
                      param := some { station := a.sender, cause := none } }
                  ∧ OtherRecords (38 + a.sender.val) s t
                  ∧ t.engine.cl = s.engine.cl ∧ t.engine.stack = s.engine.stack)
              ∧ ((∀ l ∈ adoptedFrom e.flags.isolated a.ownLevel, l < r.level) → r.life ≠ .holds →
                t.engine = s.engine))
          ∧ (adoptedFrom e.flags.isolated a.ownLevel = adoptedFrom e.flags.isolated e.ownLevel →
            s.record (38 + a.sender.val) ≠ none → t.engine = s.engine)))
    ∧ (e.state = .lost →
      ∃ t, exec (.alertReceived a) s = .next t
        ∧ OnlyChanges [.line, .peers, .engine, .pins] s t
        ∧ t.line.lineErrors = s.line.lineErrors - 1
        ∧ t.peers = s.peers.set a.sender { e with ownLevel := a.ownLevel }
        ∧ (s.line.degraded = false → t.engine = s.engine)
        ∧ HandedOver s t)
    ∧ (e.state = .absent ∨ e.state = .parked →
      ∃ t, exec (.alertReceived a) s = .next t
        ∧ OnlyChanges [.line, .engine, .pins] s t
        ∧ t.line.lineErrors = s.line.lineErrors - 1
        ∧ (s.line.degraded = false → t.engine = s.engine)
        ∧ HandedOver s t)
    ∧ (∀ p ∈ s.isolation.probation, p.station = a.sender → s.isolation.queue = [a.sender] → RejoinLaw s →
      ∃ t, exec (.alertReceived a) s = .next t
        ∧ OnlyChanges [.line, .peers, .isolation, .engine, .envelope, .pins] s t
        ∧ t.line.lineErrors = s.line.lineErrors - 1
        ∧ (AlertGivesSeven e a →
            t.isolation.probation = none ∧ t.isolation.queue = []
              ∧ t.peers = s.peers.set a.sender
                  (mutedFrom e (e.muteReason.getD .score) s.config.muteHold))
        ∧ (¬AlertGivesSeven e a →
            t.isolation = s.isolation
              ∧ t.peers = s.peers.set a.sender { e with ownLevel := a.ownLevel }
              ∧ (s.line.degraded = false → t.engine = s.engine))
        ∧ HandedOver s t)

/-- CEASE_RECEIVED against this station from a trusted sender in RUN enters or refreshes its place. At the quorum an
ACTIVE station isolates itself and raises CEASED at level 7, below it nothing more happens; an ISOLATED one stays so; a
REJOINING one is ISOLATED again and CEASED is re-raised. A CEASE that names the peer in probation fails that probation,
and in JOIN a CEASE changes nothing. READMIT_RECEIVED in a rejoin enters its place; at the quorum the station is ACTIVE
again and CEASED is gone. A trusted peer that is lost while the quorum is met by those left isolates the station.
That a contactor that a READMIT returns from RELEASED to HELD has release count 0 is the model's choice.
It rests on the model's log 19 and log 33. -/
def Obligations.DirectivesIsolateAndReadmit : Prop :=
  ∀ (i j : Station) (r : MuteReason) (s : State), Settled s → s.line.degraded = false → i ≠ s.own →
    (s.peer i).state.trusted = true →
    (s.station = .run → s.isolation.own = .active → s.record 3 = none → EngineLaw s →
      ∃ t, exec (.ceaseReceived { sender := i, target := s.own, reason := r }) s = .next t
        ∧ OnlyChanges [.line, .isolation, .engine, .envelope, .pins] s t
        ∧ t.isolation.cease = ceaseAfter i r s.isolation.cease
        ∧ HandedOver s t
        ∧ (if quorumOf s ≤ counted s (t.isolation.cease.map CeasePlace.sender) then
            t.isolation.own = .isolated ∧ t.engine.cl = 7 ∧ t.pins.gateKill = true
              ∧ ∃ x ∈ t.record 3, x.level = 7 ∧ x.fm = 0 ∧ x.fr = 0 ∧ x.count = 1 ∧ x.life = .holds
          else t.isolation.own = .active ∧ t.engine = s.engine))
    ∧ (s.station = .run → s.isolation.own = .isolated → PinsFollow s →
      exec (.ceaseReceived { sender := i, target := s.own, reason := r }) s = .next
        { s with
          line := { s.line with lineErrors := s.line.lineErrors - 1 }
          isolation := { s.isolation with cease := ceaseAfter i r s.isolation.cease } })
    ∧ (s.station = .run → s.isolation.own = .rejoining → (s.record 3).isSome = true →
      ∃ t, exec (.ceaseReceived { sender := i, target := s.own, reason := r }) s = .next t
        ∧ OnlyChanges [.line, .isolation, .engine, .pins] s t
        ∧ t.isolation =
            { s.isolation with
              own := .isolated, rejoinTimer := none, readmit := []
              cease := ceaseAfter i r s.isolation.cease }
        ∧ t.record 3 = (s.record 3).map (fun x =>
            { x with count := min 255 (x.count + 1), unread := true, life := .holds })
        ∧ OtherRecords 3 s t ∧ HandedOver s t)
    ∧ (∀ p ∈ s.isolation.probation, s.station = .run → p.station = j → s.isolation.queue = [j] → j ≠ s.own →
        j ≠ i → RejoinLaw s →
      ∃ t, exec (.ceaseReceived { sender := i, target := j, reason := r }) s = .next t
        ∧ OnlyChanges [.line, .peers, .isolation, .engine, .envelope, .pins] s t
        ∧ t.isolation.probation = none ∧ t.isolation.queue = []
        ∧ t.peers = s.peers.set j
            (mutedFrom (s.peer j) ((s.peer j).muteReason.getD .score) s.config.muteHold)
        ∧ HandedOver s t)
    ∧ (s.station = .join → j ≠ i → PinsFollow s →
      exec (.ceaseReceived { sender := i, target := j, reason := r }) s = .next
        { s with line := { s.line with lineErrors := s.line.lineErrors - 1 } })
    ∧ (s.station = .run → s.isolation.own = .rejoining → EngineLaw s →
      ∃ t, exec (.readmitReceived { sender := i, target := s.own }) s = .next t
        ∧ OnlyChanges [.line, .isolation, .engine, .envelope, .pins] s t
        ∧ HandedOver s t
        ∧ (if quorumOf s ≤ counted s ((readmitAfter i s.isolation.readmit).map ReadmitPlace.sender) then
            t.isolation.own = .active ∧ t.isolation.cease = [] ∧ t.isolation.readmit = []
              ∧ t.isolation.rejoinTimer = none ∧ RecordGone 3 s t
          else t.isolation = { s.isolation with readmit := readmitAfter i s.isolation.readmit }
            ∧ t.engine = s.engine))
    ∧ (s.station = .run → s.isolation.own = .active → s.config.lossLimit ≤ (s.peer i).age →
      ∃ t, exec (.peerLoss i) s = .next t
        ∧ (quorumOf t ≤ counted t (s.isolation.cease.map CeasePlace.sender) →
            t.isolation.own = .isolated ∧ (t.record 3).isSome = true))

/-- OWN_NUMBER_FRAME sets the own clash age to 16 and in RUN raises ROLE-CONFLICT. UNATTRIBUTED_BAD_FRAME
raises the line-error counter, and LINE-DEGRADED at 64. ATTRIBUTED_BAD_FRAME charges a LIVE or SUSPECT peer
24, and a charge that brings the score to 192 mutes the peer in RUN with reason SCORE; one of the peer in
probation fails the probation. A good ALERT, CEASE, READMIT or WAKE of a MUTED peer is counted, and a CEASE that is owed
is given. That the handover of a charge which mutes is one recomputation of the envelope, and that a contactor that
returns from RELEASED to HELD has release count 0, are the model's choices.
It rests on the model's log 8, log 21 and log 33. -/
def Obligations.ClashesAndDamagedFrames : Prop :=
  ∀ (k : FrameKind) (key : Fin 8) (i : Station) (c : Instr) (s : State), s.station = .run → Settled s →
    PinsFollow s → s.generalFull = false →
    (s.line.degraded = false → roleMissing s.start.population = s.start.missingHeld →
        (s.start.missingHeld = true → (s.record 54).isSome = true) →
        s.start.conflictHeld = false → s.record 53 = none →
      ∃ t, exec (.ownNumberFrame k) s = .next t
        ∧ OnlyChanges [.start, .line, .isolation, .engine, .envelope, .pins] s t
        ∧ t.start = { s.start with
            conflictHeld := true
            population := s.start.population.set s.own
              { s.start.population.get s.own with clash := 16 } }
        ∧ t.line = { s.line with lineErrors := s.line.lineErrors - 1 }
        ∧ PartRaised { code := 53, level := 7, fm := 0, fr := 0 } s t
        ∧ HandedOver s t)
    ∧ (s.record 50 = none →
      ∃ t, exec .unattributedBadFrame s = .next t
        ∧ OnlyChanges [.line, .isolation, .engine, .envelope, .pins] s t
        ∧ t.line.lineErrors = min 255 (s.line.lineErrors + 1)
        ∧ t.line.degraded = (s.line.degraded || decide (63 ≤ s.line.lineErrors))
        ∧ (if s.line.degraded = false ∧ 63 ≤ s.line.lineErrors then
            PartRaised { code := 50, level := 3, fm := 256, fr := 256 } s t
          else t.engine = s.engine)
        ∧ HandedOver s t)
    ∧ (key.val = i.val → i ≠ s.own → (s.peer i).state.trusted = true → (s.peer i).score < 168 →
      ∃ t, exec (.attributedBadFrame key) s = .next t
        ∧ OnlyChanges [.line, .peers, .isolation, .engine, .envelope, .pins] s t
        ∧ t.peers = s.peers.set i
            (byThresholds { s.peer i with score := (s.peer i).score + 24 })
        ∧ HandedOver s t)
    ∧ (key.val = i.val → i ≠ s.own → (s.peer i).state.trusted = true → 168 ≤ (s.peer i).score →
      ∃ t, exec (.attributedBadFrame key) s = .next t
        ∧ OnlyChanges [.line, .peers, .selector, .isolation, .engine, .envelope, .pins] s t
        ∧ t.peers = s.peers.set i (mutedFrom (s.peer i) .score s.config.muteHold)
        ∧ t.selector.own = s.selector.own ∧ t.selector.served = t.resolved ∧ BandFollows s t
        ∧ (s.record (32 + i.val) = none →
            ∃ x ∈ t.record (32 + i.val), x.level = downLevel (s.start.population.get i).role
              ∧ x.life = .holds ∧ x.param = some { station := i, cause := some .muted })
        ∧ HandedOver s t)
    ∧ (key.val = i.val → i ≠ s.own → RejoinLaw s → s.isolation.queue = [i] → (s.peer i).state = .probation →
      ∃ t, exec (.attributedBadFrame key) s = .next t
        ∧ OnlyChanges [.line, .peers, .isolation, .engine, .envelope, .pins] s t
        ∧ t.isolation.probation = none ∧ t.isolation.queue = []
        ∧ t.peers = s.peers.set i
            (mutedFrom (s.peer i) ((s.peer i).muteReason.getD .score) s.config.muteHold)
        ∧ HandedOver s t)
    ∧ (GoodFrameOf i c → i ≠ s.own → (s.peer i).state = .muted →
      ∃ t, exec c s = .next t
        ∧ OnlyChanges [.line, .peers, .engine] s t
        ∧ t.line =
            { s.line with
              lineErrors := s.line.lineErrors - 1
              degraded := s.line.degraded && decide (32 < s.line.lineErrors - 1)
              directives := ceaseGiven i (s.peer i) s.line.directives }
        ∧ t.peers = s.peers.set i (mutedCounted i (s.peer i) s.line.directives)
        ∧ (s.line.degraded = false → t.engine = s.engine))

/-- LINE_STUCK raises LINE-STUCK at level 6 and takes every commitment back; in PARKING the raise abandons the park: the
station is in RUN, PARK-ENTER completes UNAVAILABLE, a parking beacon that waits or stands in the slot is removed, and
the population check and the quorum comparison run. In a condition that still holds the line is stuck again and nothing
is raised. LINE_RELEASED starts one beacon period; LINE_STUCK_GONE after it ends the condition, which latches the record.
It rests on the model's log 8, log 10, log 22 and log 25. -/
def Obligations.StuckLineComesAndGoes : Prop :=
  ∀ s : State, s.station.onLine = true → Settled s →
    (s.station ≠ .parking → s.line.stuck = .clear → s.record 51 = none → s.generalFull = false →
      ∃ t, exec .lineStuck s = .next t
        ∧ OnlyChanges [.line, .isolation, .engine, .envelope, .pins] s t
        ∧ t.line = { s.line.stopSending with stuck := .stuck }
        ∧ t.offered = none
        ∧ PartRaised { code := 51, level := 6, fm := 0, fr := 128 } s t
        ∧ HandedOver s t)
    ∧ (s.station = .parking → s.line.stuck = .clear → s.record 51 = none → s.generalFull = false →
      ∃ t, exec .lineStuck s = .next t
        ∧ OnlyChanges [.start, .line, .isolation, .engine, .envelope, .link, .pins] s t
        ∧ t.start = { s.start with
            station := .run
            missingHeld := roleMissing s.start.population, conflictHeld := roleConflict s.start.population }
        ∧ t.link = { s.link with responses := s.link.responses ++ [Response.plain 15 .unavailable] }
        ∧ t.line = { s.line.stopSending with
            stuck := .stuck, alerts := t.line.alerts, parkingWaiting := none
            beacon :=
              match s.line.stopSending.beacon with
              | some q => if q.frame.beacon.flags.parking then none else some q
              | none => none }
        ∧ t.offered = none
        ∧ untaken (t.record 51) = some (createdBy { code := 51, level := 6, fm := 0, fr := 128 } t)
        ∧ (roleMissing s.start.population = s.start.missingHeld →
            roleConflict s.start.population = s.start.conflictHeld → QuorumShort s →
              t.line.alerts = s.line.stopSending.alerts
                ∧ t.isolation = { s.isolation with suspended := t.isolation.suspended })
        ∧ HandedOver s t)
    ∧ (∀ n, s.line.stuck = .released n → PinsFollow s →
      exec .lineStuck s = .next { s with line := { s.line with stuck := .stuck } })
    ∧ (s.line.stuck = .stuck →
      exec .lineReleased s = .next
        { s with line := { s.line with stuck := .released (periodMs s.config.period) } })
    ∧ (∀ n, s.line.stuck = .released n → PinsFollow s →
      ∃ t, exec .lineStuckGone s = .next t
        ∧ OnlyChanges [.line, .engine] s t
        ∧ t.line = { s.line with stuck := .clear }
        ∧ ConditionEnds 51 s t
        ∧ t.engine = { s.engine with records := t.engine.records })

/-! ### Invariants of every step -/

/-- Every step keeps the outputs at what the station state, the posture, the trip inputs, the contactor
sequence, the unread marks and the changed-since-read flag give, row by row. -/
def Obligations.StepKeepsOutputs : Prop :=
  ∀ s t : State, PinsFollow s → step s = .next t → PinsFollow t ∧ OutputTable t t.pins

/-- Every step keeps the response queue within its two places, and the attempt count of every queued frame at 1 to 3. -/
def Obligations.StepKeepsResponsesFit : Prop :=
  ∀ s t : State, step s = .next t → (ResponsesFit s → ResponsesFit t) ∧ (AttemptsFit s → AttemptsFit t)

/-- Every step keeps the targets at their steps, each output at or below its target, and a rise timer running
exactly while its output is below. -/
def Obligations.StepKeepsEnvelopeLaw : Prop :=
  ∀ s t : State, EnvelopeLaw s → step s = .next t → EnvelopeLaw t

/-- Every step keeps the laws of the fault table and the stack: one record of a code, twelve general slots, a
stack of rising levels owned by taken records, CL the highest level, at most seven frames. It keeps CEASED's condition
holding while its record is present. -/
def Obligations.StepKeepsEngineLaw : Prop :=
  ∀ s t : State, step s = .next t →
    (EngineLaw s →
      EngineLaw t ∧ t.engine.cl = highestLevel t.engine.records ∧ t.engine.stack.length ≤ 7)
    ∧ (CeasedHolds s → CeasedHolds t)

/-- Every step keeps the own entry as a reset leaves it, the rejoin queue in order with at most one probation, at its
head, and the served values at what the sources give. It keeps every score at 255 at most, the own values those of the
role, the readmit-owed list ascending and of LIVE or SUSPECT peers, and the band UNKNOWN while the speed is disputed
or unavailable; and SPEED-UNKNOWN and CHARGE-INTERLOCK holding in RUN and PARKING exactly as the served values say. It
rests on the model's log 38. -/
def Obligations.StepKeepsPeersInOrder : Prop :=
  ∀ s t : State, step s = .next t →
    (OwnEntryLaw s → RejoinLaw s → Settled s → OwnEntryLaw t ∧ RejoinLaw t ∧ Settled t)
    ∧ (ScoresFit s → ScoresFit t) ∧ (OwedLaw s → OwedLaw t) ∧ (SelectorLaw s → SelectorLaw t)
    ∧ (ConditionsLaw s → ConditionsLaw t)

/-! ### Formats -/

/-- A request's eight bytes are read back as that request, whatever its operands. It rests on the model's log 4. -/
def Obligations.RequestBytesRoundTrip : Prop :=
  ∀ (c : Instr) (w : BitVec 64) (straps : Straps), encodeRequest c = some w →
    (∀ token x, c = .restart token x → x = straps) → decodeTransaction straps w = c

/-- A well-formed frame's bits on the line, inserted bits included, are read back as that frame; a frame whose bits hold
a run of dominant longer than 2 ms is cut by a stuck line and unattributed, whatever its key holds.
It rests on the model's log 22, log 27 and log 39. -/
def Obligations.FrameBitsRoundTrip : Prop :=
  (∀ f : Frame, f.wf = true → classifyFrame f.wire = .good f)
  ∧ ∀ (own : Station) (heard before after : List Bool) (n : Nat), 500 < n →
      heard = before ++ List.replicate n false ++ after → frameCommand own heard = .unattributedBadFrame

end
end

