-- ==== Sys2Proof/Laws/State.lean ====
section
/-! SUPPORT. One lemma per field per replaced block, and the same for the operations on one block. -/

namespace Sys2Proof.Six

/-- A place of a table of which one place was replaced. -/
theorem get_set {α : Type} (t : Six α) (i j : Station) (x : α) :
    (t.set i x).get j = if j = i then x else t.get j := by fin_cases i <;> fin_cases j <;> rfl

end Sys2Proof.Six

namespace Sys2Proof.Machine.State

variable (s : State)

/-! ### setPending -/

@[simp] theorem setPending_pending (b : List Instr) : (s.setPending b).pending = b := rfl
@[simp] theorem setPending_start (b : List Instr) : (s.setPending b).start = s.start := rfl
@[simp] theorem setPending_config (b : List Instr) : (s.setPending b).config = s.config := rfl
@[simp] theorem setPending_line (b : List Instr) : (s.setPending b).line = s.line := rfl
@[simp] theorem setPending_peers (b : List Instr) : (s.setPending b).peers = s.peers := rfl
@[simp] theorem setPending_selector (b : List Instr) : (s.setPending b).selector = s.selector := rfl
@[simp] theorem setPending_isolation (b : List Instr) : (s.setPending b).isolation = s.isolation := rfl
@[simp] theorem setPending_engine (b : List Instr) : (s.setPending b).engine = s.engine := rfl
@[simp] theorem setPending_envelope (b : List Instr) : (s.setPending b).envelope = s.envelope := rfl
@[simp] theorem setPending_supervision (b : List Instr) : (s.setPending b).supervision = s.supervision := rfl
@[simp] theorem setPending_link (b : List Instr) : (s.setPending b).link = s.link := rfl
@[simp] theorem setPending_trips (b : List Instr) : (s.setPending b).trips = s.trips := rfl
@[simp] theorem setPending_pins (b : List Instr) : (s.setPending b).pins = s.pins := rfl

/-! ### setStart -/

@[simp] theorem setStart_pending (b : StartControl) : (s.setStart b).pending = s.pending := rfl
@[simp] theorem setStart_start (b : StartControl) : (s.setStart b).start = b := rfl
@[simp] theorem setStart_config (b : StartControl) : (s.setStart b).config = s.config := rfl
@[simp] theorem setStart_line (b : StartControl) : (s.setStart b).line = s.line := rfl
@[simp] theorem setStart_peers (b : StartControl) : (s.setStart b).peers = s.peers := rfl
@[simp] theorem setStart_selector (b : StartControl) : (s.setStart b).selector = s.selector := rfl
@[simp] theorem setStart_isolation (b : StartControl) : (s.setStart b).isolation = s.isolation := rfl
@[simp] theorem setStart_engine (b : StartControl) : (s.setStart b).engine = s.engine := rfl
@[simp] theorem setStart_envelope (b : StartControl) : (s.setStart b).envelope = s.envelope := rfl
@[simp] theorem setStart_supervision (b : StartControl) : (s.setStart b).supervision = s.supervision := rfl
@[simp] theorem setStart_link (b : StartControl) : (s.setStart b).link = s.link := rfl
@[simp] theorem setStart_trips (b : StartControl) : (s.setStart b).trips = s.trips := rfl
@[simp] theorem setStart_pins (b : StartControl) : (s.setStart b).pins = s.pins := rfl

/-! ### setConfig -/

@[simp] theorem setConfig_pending (b : ConfigSet) : (s.setConfig b).pending = s.pending := rfl
@[simp] theorem setConfig_start (b : ConfigSet) : (s.setConfig b).start = s.start := rfl
@[simp] theorem setConfig_config (b : ConfigSet) : (s.setConfig b).config = b := rfl
@[simp] theorem setConfig_line (b : ConfigSet) : (s.setConfig b).line = s.line := rfl
@[simp] theorem setConfig_peers (b : ConfigSet) : (s.setConfig b).peers = s.peers := rfl
@[simp] theorem setConfig_selector (b : ConfigSet) : (s.setConfig b).selector = s.selector := rfl
@[simp] theorem setConfig_isolation (b : ConfigSet) : (s.setConfig b).isolation = s.isolation := rfl
@[simp] theorem setConfig_engine (b : ConfigSet) : (s.setConfig b).engine = s.engine := rfl
@[simp] theorem setConfig_envelope (b : ConfigSet) : (s.setConfig b).envelope = s.envelope := rfl
@[simp] theorem setConfig_supervision (b : ConfigSet) : (s.setConfig b).supervision = s.supervision := rfl
@[simp] theorem setConfig_link (b : ConfigSet) : (s.setConfig b).link = s.link := rfl
@[simp] theorem setConfig_trips (b : ConfigSet) : (s.setConfig b).trips = s.trips := rfl
@[simp] theorem setConfig_pins (b : ConfigSet) : (s.setConfig b).pins = s.pins := rfl

/-! ### setLine -/

@[simp] theorem setLine_pending (b : LineInterface) : (s.setLine b).pending = s.pending := rfl
@[simp] theorem setLine_start (b : LineInterface) : (s.setLine b).start = s.start := rfl
@[simp] theorem setLine_config (b : LineInterface) : (s.setLine b).config = s.config := rfl
@[simp] theorem setLine_line (b : LineInterface) : (s.setLine b).line = b := rfl
@[simp] theorem setLine_peers (b : LineInterface) : (s.setLine b).peers = s.peers := rfl
@[simp] theorem setLine_selector (b : LineInterface) : (s.setLine b).selector = s.selector := rfl
@[simp] theorem setLine_isolation (b : LineInterface) : (s.setLine b).isolation = s.isolation := rfl
@[simp] theorem setLine_engine (b : LineInterface) : (s.setLine b).engine = s.engine := rfl
@[simp] theorem setLine_envelope (b : LineInterface) : (s.setLine b).envelope = s.envelope := rfl
@[simp] theorem setLine_supervision (b : LineInterface) : (s.setLine b).supervision = s.supervision := rfl
@[simp] theorem setLine_link (b : LineInterface) : (s.setLine b).link = s.link := rfl
@[simp] theorem setLine_trips (b : LineInterface) : (s.setLine b).trips = s.trips := rfl
@[simp] theorem setLine_pins (b : LineInterface) : (s.setLine b).pins = s.pins := rfl

/-! ### setPeers -/

@[simp] theorem setPeers_pending (b : Six PeerEntry) : (s.setPeers b).pending = s.pending := rfl
@[simp] theorem setPeers_start (b : Six PeerEntry) : (s.setPeers b).start = s.start := rfl
@[simp] theorem setPeers_config (b : Six PeerEntry) : (s.setPeers b).config = s.config := rfl
@[simp] theorem setPeers_line (b : Six PeerEntry) : (s.setPeers b).line = s.line := rfl
@[simp] theorem setPeers_peers (b : Six PeerEntry) : (s.setPeers b).peers = b := rfl
@[simp] theorem setPeers_selector (b : Six PeerEntry) : (s.setPeers b).selector = s.selector := rfl
@[simp] theorem setPeers_isolation (b : Six PeerEntry) : (s.setPeers b).isolation = s.isolation := rfl
@[simp] theorem setPeers_engine (b : Six PeerEntry) : (s.setPeers b).engine = s.engine := rfl
@[simp] theorem setPeers_envelope (b : Six PeerEntry) : (s.setPeers b).envelope = s.envelope := rfl
@[simp] theorem setPeers_supervision (b : Six PeerEntry) : (s.setPeers b).supervision = s.supervision := rfl
@[simp] theorem setPeers_link (b : Six PeerEntry) : (s.setPeers b).link = s.link := rfl
@[simp] theorem setPeers_trips (b : Six PeerEntry) : (s.setPeers b).trips = s.trips := rfl
@[simp] theorem setPeers_pins (b : Six PeerEntry) : (s.setPeers b).pins = s.pins := rfl

/-! ### setSelector -/

@[simp] theorem setSelector_pending (b : Selector) : (s.setSelector b).pending = s.pending := rfl
@[simp] theorem setSelector_start (b : Selector) : (s.setSelector b).start = s.start := rfl
@[simp] theorem setSelector_config (b : Selector) : (s.setSelector b).config = s.config := rfl
@[simp] theorem setSelector_line (b : Selector) : (s.setSelector b).line = s.line := rfl
@[simp] theorem setSelector_peers (b : Selector) : (s.setSelector b).peers = s.peers := rfl
@[simp] theorem setSelector_selector (b : Selector) : (s.setSelector b).selector = b := rfl
@[simp] theorem setSelector_isolation (b : Selector) : (s.setSelector b).isolation = s.isolation := rfl
@[simp] theorem setSelector_engine (b : Selector) : (s.setSelector b).engine = s.engine := rfl
@[simp] theorem setSelector_envelope (b : Selector) : (s.setSelector b).envelope = s.envelope := rfl
@[simp] theorem setSelector_supervision (b : Selector) : (s.setSelector b).supervision = s.supervision := rfl
@[simp] theorem setSelector_link (b : Selector) : (s.setSelector b).link = s.link := rfl
@[simp] theorem setSelector_trips (b : Selector) : (s.setSelector b).trips = s.trips := rfl
@[simp] theorem setSelector_pins (b : Selector) : (s.setSelector b).pins = s.pins := rfl

/-! ### setIsolation -/

@[simp] theorem setIsolation_pending (b : Isolation) : (s.setIsolation b).pending = s.pending := rfl
@[simp] theorem setIsolation_start (b : Isolation) : (s.setIsolation b).start = s.start := rfl
@[simp] theorem setIsolation_config (b : Isolation) : (s.setIsolation b).config = s.config := rfl
@[simp] theorem setIsolation_line (b : Isolation) : (s.setIsolation b).line = s.line := rfl
@[simp] theorem setIsolation_peers (b : Isolation) : (s.setIsolation b).peers = s.peers := rfl
@[simp] theorem setIsolation_selector (b : Isolation) : (s.setIsolation b).selector = s.selector := rfl
@[simp] theorem setIsolation_isolation (b : Isolation) : (s.setIsolation b).isolation = b := rfl
@[simp] theorem setIsolation_engine (b : Isolation) : (s.setIsolation b).engine = s.engine := rfl
@[simp] theorem setIsolation_envelope (b : Isolation) : (s.setIsolation b).envelope = s.envelope := rfl
@[simp] theorem setIsolation_supervision (b : Isolation) : (s.setIsolation b).supervision = s.supervision := rfl
@[simp] theorem setIsolation_link (b : Isolation) : (s.setIsolation b).link = s.link := rfl
@[simp] theorem setIsolation_trips (b : Isolation) : (s.setIsolation b).trips = s.trips := rfl
@[simp] theorem setIsolation_pins (b : Isolation) : (s.setIsolation b).pins = s.pins := rfl

/-! ### setEngine -/

@[simp] theorem setEngine_pending (b : Engine) : (s.setEngine b).pending = s.pending := rfl
@[simp] theorem setEngine_start (b : Engine) : (s.setEngine b).start = s.start := rfl
@[simp] theorem setEngine_config (b : Engine) : (s.setEngine b).config = s.config := rfl
@[simp] theorem setEngine_line (b : Engine) : (s.setEngine b).line = s.line := rfl
@[simp] theorem setEngine_peers (b : Engine) : (s.setEngine b).peers = s.peers := rfl
@[simp] theorem setEngine_selector (b : Engine) : (s.setEngine b).selector = s.selector := rfl
@[simp] theorem setEngine_isolation (b : Engine) : (s.setEngine b).isolation = s.isolation := rfl
@[simp] theorem setEngine_engine (b : Engine) : (s.setEngine b).engine = b := rfl
@[simp] theorem setEngine_envelope (b : Engine) : (s.setEngine b).envelope = s.envelope := rfl
@[simp] theorem setEngine_supervision (b : Engine) : (s.setEngine b).supervision = s.supervision := rfl
@[simp] theorem setEngine_link (b : Engine) : (s.setEngine b).link = s.link := rfl
@[simp] theorem setEngine_trips (b : Engine) : (s.setEngine b).trips = s.trips := rfl
@[simp] theorem setEngine_pins (b : Engine) : (s.setEngine b).pins = s.pins := rfl

/-! ### setEnvelope -/

@[simp] theorem setEnvelope_pending (b : Envelope) : (s.setEnvelope b).pending = s.pending := rfl
@[simp] theorem setEnvelope_start (b : Envelope) : (s.setEnvelope b).start = s.start := rfl
@[simp] theorem setEnvelope_config (b : Envelope) : (s.setEnvelope b).config = s.config := rfl
@[simp] theorem setEnvelope_line (b : Envelope) : (s.setEnvelope b).line = s.line := rfl
@[simp] theorem setEnvelope_peers (b : Envelope) : (s.setEnvelope b).peers = s.peers := rfl
@[simp] theorem setEnvelope_selector (b : Envelope) : (s.setEnvelope b).selector = s.selector := rfl
@[simp] theorem setEnvelope_isolation (b : Envelope) : (s.setEnvelope b).isolation = s.isolation := rfl
@[simp] theorem setEnvelope_engine (b : Envelope) : (s.setEnvelope b).engine = s.engine := rfl
@[simp] theorem setEnvelope_envelope (b : Envelope) : (s.setEnvelope b).envelope = b := rfl
@[simp] theorem setEnvelope_supervision (b : Envelope) : (s.setEnvelope b).supervision = s.supervision := rfl
@[simp] theorem setEnvelope_link (b : Envelope) : (s.setEnvelope b).link = s.link := rfl
@[simp] theorem setEnvelope_trips (b : Envelope) : (s.setEnvelope b).trips = s.trips := rfl
@[simp] theorem setEnvelope_pins (b : Envelope) : (s.setEnvelope b).pins = s.pins := rfl

/-! ### setSupervision -/

@[simp] theorem setSupervision_pending (b : Supervision) : (s.setSupervision b).pending = s.pending := rfl
@[simp] theorem setSupervision_start (b : Supervision) : (s.setSupervision b).start = s.start := rfl
@[simp] theorem setSupervision_config (b : Supervision) : (s.setSupervision b).config = s.config := rfl
@[simp] theorem setSupervision_line (b : Supervision) : (s.setSupervision b).line = s.line := rfl
@[simp] theorem setSupervision_peers (b : Supervision) : (s.setSupervision b).peers = s.peers := rfl
@[simp] theorem setSupervision_selector (b : Supervision) : (s.setSupervision b).selector = s.selector := rfl
@[simp] theorem setSupervision_isolation (b : Supervision) : (s.setSupervision b).isolation = s.isolation := rfl
@[simp] theorem setSupervision_engine (b : Supervision) : (s.setSupervision b).engine = s.engine := rfl
@[simp] theorem setSupervision_envelope (b : Supervision) : (s.setSupervision b).envelope = s.envelope := rfl
@[simp] theorem setSupervision_supervision (b : Supervision) : (s.setSupervision b).supervision = b := rfl
@[simp] theorem setSupervision_link (b : Supervision) : (s.setSupervision b).link = s.link := rfl
@[simp] theorem setSupervision_trips (b : Supervision) : (s.setSupervision b).trips = s.trips := rfl
@[simp] theorem setSupervision_pins (b : Supervision) : (s.setSupervision b).pins = s.pins := rfl

/-! ### setLink -/

@[simp] theorem setLink_pending (b : Link) : (s.setLink b).pending = s.pending := rfl
@[simp] theorem setLink_start (b : Link) : (s.setLink b).start = s.start := rfl
@[simp] theorem setLink_config (b : Link) : (s.setLink b).config = s.config := rfl
@[simp] theorem setLink_line (b : Link) : (s.setLink b).line = s.line := rfl
@[simp] theorem setLink_peers (b : Link) : (s.setLink b).peers = s.peers := rfl
@[simp] theorem setLink_selector (b : Link) : (s.setLink b).selector = s.selector := rfl
@[simp] theorem setLink_isolation (b : Link) : (s.setLink b).isolation = s.isolation := rfl
@[simp] theorem setLink_engine (b : Link) : (s.setLink b).engine = s.engine := rfl
@[simp] theorem setLink_envelope (b : Link) : (s.setLink b).envelope = s.envelope := rfl
@[simp] theorem setLink_supervision (b : Link) : (s.setLink b).supervision = s.supervision := rfl
@[simp] theorem setLink_link (b : Link) : (s.setLink b).link = b := rfl
@[simp] theorem setLink_trips (b : Link) : (s.setLink b).trips = s.trips := rfl
@[simp] theorem setLink_pins (b : Link) : (s.setLink b).pins = s.pins := rfl

/-! ### setTrips -/

@[simp] theorem setTrips_pending (b : BitVec 4) : (s.setTrips b).pending = s.pending := rfl
@[simp] theorem setTrips_start (b : BitVec 4) : (s.setTrips b).start = s.start := rfl
@[simp] theorem setTrips_config (b : BitVec 4) : (s.setTrips b).config = s.config := rfl
@[simp] theorem setTrips_line (b : BitVec 4) : (s.setTrips b).line = s.line := rfl
@[simp] theorem setTrips_peers (b : BitVec 4) : (s.setTrips b).peers = s.peers := rfl
@[simp] theorem setTrips_selector (b : BitVec 4) : (s.setTrips b).selector = s.selector := rfl
@[simp] theorem setTrips_isolation (b : BitVec 4) : (s.setTrips b).isolation = s.isolation := rfl
@[simp] theorem setTrips_engine (b : BitVec 4) : (s.setTrips b).engine = s.engine := rfl
@[simp] theorem setTrips_envelope (b : BitVec 4) : (s.setTrips b).envelope = s.envelope := rfl
@[simp] theorem setTrips_supervision (b : BitVec 4) : (s.setTrips b).supervision = s.supervision := rfl
@[simp] theorem setTrips_link (b : BitVec 4) : (s.setTrips b).link = s.link := rfl
@[simp] theorem setTrips_trips (b : BitVec 4) : (s.setTrips b).trips = b := rfl
@[simp] theorem setTrips_pins (b : BitVec 4) : (s.setTrips b).pins = s.pins := rfl

/-! ### setPins -/

@[simp] theorem setPins_pending (b : Pins) : (s.setPins b).pending = s.pending := rfl
@[simp] theorem setPins_start (b : Pins) : (s.setPins b).start = s.start := rfl
@[simp] theorem setPins_config (b : Pins) : (s.setPins b).config = s.config := rfl
@[simp] theorem setPins_line (b : Pins) : (s.setPins b).line = s.line := rfl
@[simp] theorem setPins_peers (b : Pins) : (s.setPins b).peers = s.peers := rfl
@[simp] theorem setPins_selector (b : Pins) : (s.setPins b).selector = s.selector := rfl
@[simp] theorem setPins_isolation (b : Pins) : (s.setPins b).isolation = s.isolation := rfl
@[simp] theorem setPins_engine (b : Pins) : (s.setPins b).engine = s.engine := rfl
@[simp] theorem setPins_envelope (b : Pins) : (s.setPins b).envelope = s.envelope := rfl
@[simp] theorem setPins_supervision (b : Pins) : (s.setPins b).supervision = s.supervision := rfl
@[simp] theorem setPins_link (b : Pins) : (s.setPins b).link = s.link := rfl
@[simp] theorem setPins_trips (b : Pins) : (s.setPins b).trips = s.trips := rfl
@[simp] theorem setPins_pins (b : Pins) : (s.setPins b).pins = b := rfl

/-! ### What is read through a block -/

@[simp] theorem setPending_station (b : List Instr) : (s.setPending b).station = s.station := rfl
@[simp] theorem setPending_own (b : List Instr) : (s.setPending b).own = s.own := rfl
@[simp] theorem setPending_peer (b : List Instr) (i : Station) : (s.setPending b).peer i = s.peer i := rfl
@[simp] theorem setPending_record (b : List Instr) (c : Nat) : (s.setPending b).record c = s.record c := rfl
@[simp] theorem setStart_station (b : StartControl) : (s.setStart b).station = b.station := rfl
@[simp] theorem setStart_own (b : StartControl) : (s.setStart b).own = b.straps.station.getD 0 := rfl
@[simp] theorem setStart_peer (b : StartControl) (i : Station) : (s.setStart b).peer i = s.peer i := rfl
@[simp] theorem setStart_record (b : StartControl) (c : Nat) : (s.setStart b).record c = s.record c := rfl
@[simp] theorem setConfig_station (b : ConfigSet) : (s.setConfig b).station = s.station := rfl
@[simp] theorem setConfig_own (b : ConfigSet) : (s.setConfig b).own = s.own := rfl
@[simp] theorem setConfig_peer (b : ConfigSet) (i : Station) : (s.setConfig b).peer i = s.peer i := rfl
@[simp] theorem setConfig_record (b : ConfigSet) (c : Nat) : (s.setConfig b).record c = s.record c := rfl
@[simp] theorem setLine_station (b : LineInterface) : (s.setLine b).station = s.station := rfl
@[simp] theorem setLine_own (b : LineInterface) : (s.setLine b).own = s.own := rfl
@[simp] theorem setLine_peer (b : LineInterface) (i : Station) : (s.setLine b).peer i = s.peer i := rfl
@[simp] theorem setLine_record (b : LineInterface) (c : Nat) : (s.setLine b).record c = s.record c := rfl
@[simp] theorem setPeers_station (b : Six PeerEntry) : (s.setPeers b).station = s.station := rfl
@[simp] theorem setPeers_own (b : Six PeerEntry) : (s.setPeers b).own = s.own := rfl
@[simp] theorem setPeers_peer (b : Six PeerEntry) (i : Station) : (s.setPeers b).peer i = b.get i := rfl
@[simp] theorem setPeers_record (b : Six PeerEntry) (c : Nat) : (s.setPeers b).record c = s.record c := rfl
@[simp] theorem setSelector_station (b : Selector) : (s.setSelector b).station = s.station := rfl
@[simp] theorem setSelector_own (b : Selector) : (s.setSelector b).own = s.own := rfl
@[simp] theorem setSelector_peer (b : Selector) (i : Station) : (s.setSelector b).peer i = s.peer i := rfl
@[simp] theorem setSelector_record (b : Selector) (c : Nat) : (s.setSelector b).record c = s.record c := rfl
@[simp] theorem setIsolation_station (b : Isolation) : (s.setIsolation b).station = s.station := rfl
@[simp] theorem setIsolation_own (b : Isolation) : (s.setIsolation b).own = s.own := rfl
@[simp] theorem setIsolation_peer (b : Isolation) (i : Station) : (s.setIsolation b).peer i = s.peer i := rfl
@[simp] theorem setIsolation_record (b : Isolation) (c : Nat) : (s.setIsolation b).record c = s.record c := rfl
@[simp] theorem setEngine_station (b : Engine) : (s.setEngine b).station = s.station := rfl
@[simp] theorem setEngine_own (b : Engine) : (s.setEngine b).own = s.own := rfl
@[simp] theorem setEngine_peer (b : Engine) (i : Station) : (s.setEngine b).peer i = s.peer i := rfl
@[simp] theorem setEngine_record (b : Engine) (c : Nat) : (s.setEngine b).record c = findRecord c b.records := rfl
@[simp] theorem setEnvelope_station (b : Envelope) : (s.setEnvelope b).station = s.station := rfl
@[simp] theorem setEnvelope_own (b : Envelope) : (s.setEnvelope b).own = s.own := rfl
@[simp] theorem setEnvelope_peer (b : Envelope) (i : Station) : (s.setEnvelope b).peer i = s.peer i := rfl
@[simp] theorem setEnvelope_record (b : Envelope) (c : Nat) : (s.setEnvelope b).record c = s.record c := rfl
@[simp] theorem setSupervision_station (b : Supervision) : (s.setSupervision b).station = s.station := rfl
@[simp] theorem setSupervision_own (b : Supervision) : (s.setSupervision b).own = s.own := rfl
@[simp] theorem setSupervision_peer (b : Supervision) (i : Station) : (s.setSupervision b).peer i = s.peer i := rfl
@[simp] theorem setSupervision_record (b : Supervision) (c : Nat) : (s.setSupervision b).record c = s.record c := rfl
@[simp] theorem setLink_station (b : Link) : (s.setLink b).station = s.station := rfl
@[simp] theorem setLink_own (b : Link) : (s.setLink b).own = s.own := rfl
@[simp] theorem setLink_peer (b : Link) (i : Station) : (s.setLink b).peer i = s.peer i := rfl
@[simp] theorem setLink_record (b : Link) (c : Nat) : (s.setLink b).record c = s.record c := rfl
@[simp] theorem setTrips_station (b : BitVec 4) : (s.setTrips b).station = s.station := rfl
@[simp] theorem setTrips_own (b : BitVec 4) : (s.setTrips b).own = s.own := rfl
@[simp] theorem setTrips_peer (b : BitVec 4) (i : Station) : (s.setTrips b).peer i = s.peer i := rfl
@[simp] theorem setTrips_record (b : BitVec 4) (c : Nat) : (s.setTrips b).record c = s.record c := rfl
@[simp] theorem setPins_station (b : Pins) : (s.setPins b).station = s.station := rfl
@[simp] theorem setPins_own (b : Pins) : (s.setPins b).own = s.own := rfl
@[simp] theorem setPins_peer (b : Pins) (i : Station) : (s.setPins b).peer i = s.peer i := rfl
@[simp] theorem setPins_record (b : Pins) (c : Nat) : (s.setPins b).record c = s.record c := rfl

/-! ### Operations on one block -/

@[simp] theorem setStation_pending (x : StationState) : (s.setStation x).pending = s.pending := rfl
@[simp] theorem setStation_start (x : StationState) : (s.setStation x).start = { s.start with station := x } := rfl
@[simp] theorem setStation_config (x : StationState) : (s.setStation x).config = s.config := rfl
@[simp] theorem setStation_line (x : StationState) : (s.setStation x).line = s.line := rfl
@[simp] theorem setStation_peers (x : StationState) : (s.setStation x).peers = s.peers := rfl
@[simp] theorem setStation_selector (x : StationState) : (s.setStation x).selector = s.selector := rfl
@[simp] theorem setStation_isolation (x : StationState) : (s.setStation x).isolation = s.isolation := rfl
@[simp] theorem setStation_engine (x : StationState) : (s.setStation x).engine = s.engine := rfl
@[simp] theorem setStation_envelope (x : StationState) : (s.setStation x).envelope = s.envelope := rfl
@[simp] theorem setStation_supervision (x : StationState) : (s.setStation x).supervision = s.supervision := rfl
@[simp] theorem setStation_link (x : StationState) : (s.setStation x).link = s.link := rfl
@[simp] theorem setStation_trips (x : StationState) : (s.setStation x).trips = s.trips := rfl
@[simp] theorem setStation_pins (x : StationState) : (s.setStation x).pins = s.pins := rfl

@[simp] theorem setPeer_pending (i : Station) (e : PeerEntry) : (s.setPeer i e).pending = s.pending := rfl
@[simp] theorem setPeer_start (i : Station) (e : PeerEntry) : (s.setPeer i e).start = s.start := rfl
@[simp] theorem setPeer_config (i : Station) (e : PeerEntry) : (s.setPeer i e).config = s.config := rfl
@[simp] theorem setPeer_line (i : Station) (e : PeerEntry) : (s.setPeer i e).line = s.line := rfl
@[simp] theorem setPeer_peers (i : Station) (e : PeerEntry) : (s.setPeer i e).peers = s.peers.set i e := rfl
theorem setPeer_peer (i j : Station) (e : PeerEntry) :
    (s.setPeer i e).peer j = if j = i then e else s.peer j := Six.get_set s.peers i j e
@[simp] theorem setPeer_selector (i : Station) (e : PeerEntry) : (s.setPeer i e).selector = s.selector := rfl
@[simp] theorem setPeer_isolation (i : Station) (e : PeerEntry) : (s.setPeer i e).isolation = s.isolation := rfl
@[simp] theorem setPeer_engine (i : Station) (e : PeerEntry) : (s.setPeer i e).engine = s.engine := rfl
@[simp] theorem setPeer_envelope (i : Station) (e : PeerEntry) : (s.setPeer i e).envelope = s.envelope := rfl
@[simp] theorem setPeer_supervision (i : Station) (e : PeerEntry) : (s.setPeer i e).supervision = s.supervision := rfl
@[simp] theorem setPeer_link (i : Station) (e : PeerEntry) : (s.setPeer i e).link = s.link := rfl
@[simp] theorem setPeer_trips (i : Station) (e : PeerEntry) : (s.setPeer i e).trips = s.trips := rfl
@[simp] theorem setPeer_pins (i : Station) (e : PeerEntry) : (s.setPeer i e).pins = s.pins := rfl

@[simp] theorem respond_pending (r : Response) : (s.respond r).pending = s.pending := rfl
@[simp] theorem respond_start (r : Response) : (s.respond r).start = s.start := rfl
@[simp] theorem respond_config (r : Response) : (s.respond r).config = s.config := rfl
@[simp] theorem respond_line (r : Response) : (s.respond r).line = s.line := rfl
@[simp] theorem respond_peers (r : Response) : (s.respond r).peers = s.peers := rfl
@[simp] theorem respond_selector (r : Response) : (s.respond r).selector = s.selector := rfl
@[simp] theorem respond_isolation (r : Response) : (s.respond r).isolation = s.isolation := rfl
@[simp] theorem respond_engine (r : Response) : (s.respond r).engine = s.engine := rfl
@[simp] theorem respond_envelope (r : Response) : (s.respond r).envelope = s.envelope := rfl
@[simp] theorem respond_supervision (r : Response) : (s.respond r).supervision = s.supervision := rfl
@[simp] theorem respond_link (r : Response) : (s.respond r).link = { s.link with responses := s.link.responses ++ [r] } := rfl
@[simp] theorem respond_trips (r : Response) : (s.respond r).trips = s.trips := rfl
@[simp] theorem respond_pins (r : Response) : (s.respond r).pins = s.pins := rfl

@[simp] theorem setRecords_pending (l : List Record) : (s.setRecords l).pending = s.pending := rfl
@[simp] theorem setRecords_start (l : List Record) : (s.setRecords l).start = s.start := rfl
@[simp] theorem setRecords_config (l : List Record) : (s.setRecords l).config = s.config := rfl
@[simp] theorem setRecords_line (l : List Record) : (s.setRecords l).line = s.line := rfl
@[simp] theorem setRecords_peers (l : List Record) : (s.setRecords l).peers = s.peers := rfl
@[simp] theorem setRecords_selector (l : List Record) : (s.setRecords l).selector = s.selector := rfl
@[simp] theorem setRecords_isolation (l : List Record) : (s.setRecords l).isolation = s.isolation := rfl
@[simp] theorem setRecords_engine (l : List Record) : (s.setRecords l).engine = { s.engine with records := l } := rfl
@[simp] theorem setRecords_envelope (l : List Record) : (s.setRecords l).envelope = s.envelope := rfl
@[simp] theorem setRecords_supervision (l : List Record) : (s.setRecords l).supervision = s.supervision := rfl
@[simp] theorem setRecords_link (l : List Record) : (s.setRecords l).link = s.link := rfl
@[simp] theorem setRecords_trips (l : List Record) : (s.setRecords l).trips = s.trips := rfl
@[simp] theorem setRecords_pins (l : List Record) : (s.setRecords l).pins = s.pins := rfl

@[simp] theorem updateRecord_pending (c : Nat) (g : Record → Record) : (s.updateRecord c g).pending = s.pending := rfl
@[simp] theorem updateRecord_start (c : Nat) (g : Record → Record) : (s.updateRecord c g).start = s.start := rfl
@[simp] theorem updateRecord_config (c : Nat) (g : Record → Record) : (s.updateRecord c g).config = s.config := rfl
@[simp] theorem updateRecord_line (c : Nat) (g : Record → Record) : (s.updateRecord c g).line = s.line := rfl
@[simp] theorem updateRecord_peers (c : Nat) (g : Record → Record) : (s.updateRecord c g).peers = s.peers := rfl
@[simp] theorem updateRecord_selector (c : Nat) (g : Record → Record) : (s.updateRecord c g).selector = s.selector := rfl
@[simp] theorem updateRecord_isolation (c : Nat) (g : Record → Record) : (s.updateRecord c g).isolation = s.isolation := rfl
@[simp] theorem updateRecord_engine (c : Nat) (g : Record → Record) : (s.updateRecord c g).engine = { s.engine with records := mapRecord c g s.engine.records } := rfl
@[simp] theorem updateRecord_envelope (c : Nat) (g : Record → Record) : (s.updateRecord c g).envelope = s.envelope := rfl
@[simp] theorem updateRecord_supervision (c : Nat) (g : Record → Record) : (s.updateRecord c g).supervision = s.supervision := rfl
@[simp] theorem updateRecord_link (c : Nat) (g : Record → Record) : (s.updateRecord c g).link = s.link := rfl
@[simp] theorem updateRecord_trips (c : Nat) (g : Record → Record) : (s.updateRecord c g).trips = s.trips := rfl
@[simp] theorem updateRecord_pins (c : Nat) (g : Record → Record) : (s.updateRecord c g).pins = s.pins := rfl

@[simp] theorem setContactor_pending (c : Contactor) (n : Nat) : (s.setContactor c n).pending = s.pending := rfl
@[simp] theorem setContactor_start (c : Contactor) (n : Nat) : (s.setContactor c n).start = s.start := rfl
@[simp] theorem setContactor_config (c : Contactor) (n : Nat) : (s.setContactor c n).config = s.config := rfl
@[simp] theorem setContactor_line (c : Contactor) (n : Nat) : (s.setContactor c n).line = s.line := rfl
@[simp] theorem setContactor_peers (c : Contactor) (n : Nat) : (s.setContactor c n).peers = s.peers := rfl
@[simp] theorem setContactor_selector (c : Contactor) (n : Nat) : (s.setContactor c n).selector = s.selector := rfl
@[simp] theorem setContactor_isolation (c : Contactor) (n : Nat) : (s.setContactor c n).isolation = s.isolation := rfl
@[simp] theorem setContactor_engine (c : Contactor) (n : Nat) : (s.setContactor c n).engine = { s.engine with contactor := c, releaseCount := n } := rfl
@[simp] theorem setContactor_envelope (c : Contactor) (n : Nat) : (s.setContactor c n).envelope = s.envelope := rfl
@[simp] theorem setContactor_supervision (c : Contactor) (n : Nat) : (s.setContactor c n).supervision = s.supervision := rfl
@[simp] theorem setContactor_link (c : Contactor) (n : Nat) : (s.setContactor c n).link = s.link := rfl
@[simp] theorem setContactor_trips (c : Contactor) (n : Nat) : (s.setContactor c n).trips = s.trips := rfl
@[simp] theorem setContactor_pins (c : Contactor) (n : Nat) : (s.setContactor c n).pins = s.pins := rfl

@[simp] theorem setPlace_pending (i : Station) (p : Place) : (s.setPlace i p).pending = s.pending := rfl
@[simp] theorem setPlace_start (i : Station) (p : Place) : (s.setPlace i p).start = { s.start with population := s.start.population.set i p } := rfl
@[simp] theorem setPlace_config (i : Station) (p : Place) : (s.setPlace i p).config = s.config := rfl
@[simp] theorem setPlace_line (i : Station) (p : Place) : (s.setPlace i p).line = s.line := rfl
@[simp] theorem setPlace_peers (i : Station) (p : Place) : (s.setPlace i p).peers = s.peers := rfl
@[simp] theorem setPlace_selector (i : Station) (p : Place) : (s.setPlace i p).selector = s.selector := rfl
@[simp] theorem setPlace_isolation (i : Station) (p : Place) : (s.setPlace i p).isolation = s.isolation := rfl
@[simp] theorem setPlace_engine (i : Station) (p : Place) : (s.setPlace i p).engine = s.engine := rfl
@[simp] theorem setPlace_envelope (i : Station) (p : Place) : (s.setPlace i p).envelope = s.envelope := rfl
@[simp] theorem setPlace_supervision (i : Station) (p : Place) : (s.setPlace i p).supervision = s.supervision := rfl
@[simp] theorem setPlace_link (i : Station) (p : Place) : (s.setPlace i p).link = s.link := rfl
@[simp] theorem setPlace_trips (i : Station) (p : Place) : (s.setPlace i p).trips = s.trips := rfl
@[simp] theorem setPlace_pins (i : Station) (p : Place) : (s.setPlace i p).pins = s.pins := rfl

/-! ### hold -/

@[simp] theorem hold_pending (f : HeldFrames → HeldFrames) : (s.hold f).pending = s.pending := rfl
@[simp] theorem hold_start (f : HeldFrames → HeldFrames) : (s.hold f).start = s.start := rfl
@[simp] theorem hold_config (f : HeldFrames → HeldFrames) : (s.hold f).config = s.config := rfl
@[simp] theorem hold_line (f : HeldFrames → HeldFrames) : (s.hold f).line = s.line.hold f := rfl
@[simp] theorem hold_peers (f : HeldFrames → HeldFrames) : (s.hold f).peers = s.peers := rfl
@[simp] theorem hold_selector (f : HeldFrames → HeldFrames) : (s.hold f).selector = s.selector := rfl
@[simp] theorem hold_isolation (f : HeldFrames → HeldFrames) : (s.hold f).isolation = s.isolation := rfl
@[simp] theorem hold_engine (f : HeldFrames → HeldFrames) : (s.hold f).engine = s.engine := rfl
@[simp] theorem hold_envelope (f : HeldFrames → HeldFrames) : (s.hold f).envelope = s.envelope := rfl
@[simp] theorem hold_supervision (f : HeldFrames → HeldFrames) : (s.hold f).supervision = s.supervision := rfl
@[simp] theorem hold_link (f : HeldFrames → HeldFrames) : (s.hold f).link = s.link := rfl
@[simp] theorem hold_trips (f : HeldFrames → HeldFrames) : (s.hold f).trips = s.trips := rfl
@[simp] theorem hold_pins (f : HeldFrames → HeldFrames) : (s.hold f).pins = s.pins := rfl

@[simp] theorem drivePins_pending : s.drivePins.pending = s.pending := rfl
@[simp] theorem drivePins_start : s.drivePins.start = s.start := rfl
@[simp] theorem drivePins_config : s.drivePins.config = s.config := rfl
@[simp] theorem drivePins_line : s.drivePins.line = s.line := rfl
@[simp] theorem drivePins_peers : s.drivePins.peers = s.peers := rfl
@[simp] theorem drivePins_selector : s.drivePins.selector = s.selector := rfl
@[simp] theorem drivePins_isolation : s.drivePins.isolation = s.isolation := rfl
@[simp] theorem drivePins_engine : s.drivePins.engine = s.engine := rfl
@[simp] theorem drivePins_envelope : s.drivePins.envelope = s.envelope := rfl
@[simp] theorem drivePins_supervision : s.drivePins.supervision = s.supervision := rfl
@[simp] theorem drivePins_link : s.drivePins.link = s.link := rfl
@[simp] theorem drivePins_trips : s.drivePins.trips = s.trips := rfl
@[simp] theorem drivePins_pins : s.drivePins.pins = s.outputs := rfl

end Sys2Proof.Machine.State

/-! ### Held frames -/

namespace Sys2Proof.Machine.LineInterface

variable (l : LineInterface) (f : HeldFrames → HeldFrames)

@[simp] theorem hold_toHeldFrames : (l.hold f).toHeldFrames = f l.toHeldFrames := rfl
@[simp] theorem hold_directives : (l.hold f).directives = l.directives := rfl
@[simp] theorem hold_wake : (l.hold f).wake = l.wake := rfl
@[simp] theorem hold_attempt :
    (l.hold f).attempt = l.attempt.map fun a => { a with ifLost := f a.ifLost } := rfl
@[simp] theorem hold_sequence : (l.hold f).sequence = l.sequence := rfl
@[simp] theorem hold_txFailures : (l.hold f).txFailures = l.txFailures := rfl
@[simp] theorem hold_lineErrors : (l.hold f).lineErrors = l.lineErrors := rfl
@[simp] theorem hold_degraded : (l.hold f).degraded = l.degraded := rfl
@[simp] theorem hold_stuck : (l.hold f).stuck = l.stuck := rfl

end Sys2Proof.Machine.LineInterface
end

