-- ==== Sys2Proof/Laws/Shell.lean ====
section
/-! SUPPORT. What no operation inside a handling touches: the queue of commands, the configuration, the envelope, the
trip inputs, the pins, the straps, the bytes clocked out, and the places of the response queue taken or
promised. One lemma per shared operation. -/

namespace Sys2Proof.Machine

/-- What a handling leaves alone before its handover. -/
structure Shell where
  pending : List Instr
  config : ConfigSet
  envelope : Envelope
  trips : BitVec 4
  pins : Pins
  straps : Straps
  out : Option (BitVec 64)
  owed : Nat

def State.shell (s : State) : Shell :=
  { pending := s.pending, config := s.config, envelope := s.envelope, trips := s.trips, pins := s.pins,
    straps := s.start.straps, out := s.link.out, owed := s.responsesOwed }

namespace State

variable (s : State)

/-! ### Replaced blocks -/

@[simp] theorem setLine_shell (b : LineInterface) : (s.setLine b).shell = s.shell := rfl
@[simp] theorem setPeers_shell (b : Six PeerEntry) : (s.setPeers b).shell = s.shell := rfl
@[simp] theorem setSelector_shell (b : Selector) : (s.setSelector b).shell = s.shell := rfl
@[simp] theorem setIsolation_shell (b : Isolation) : (s.setIsolation b).shell = s.shell := rfl
@[simp] theorem setEngine_shell (b : Engine) : (s.setEngine b).shell = s.shell := rfl
@[simp] theorem setSupervision_shell (b : Supervision) : (s.setSupervision b).shell = s.shell := rfl
@[simp] theorem setPeer_shell (i : Station) (e : PeerEntry) : (s.setPeer i e).shell = s.shell := rfl
@[simp] theorem setRecords_shell (l : List Record) : (s.setRecords l).shell = s.shell := rfl
@[simp] theorem updateRecord_shell (c : Nat) (g : Record → Record) :
    (s.updateRecord c g).shell = s.shell := rfl
@[simp] theorem setContactor_shell (c : Contactor) (n : Nat) : (s.setContactor c n).shell = s.shell := rfl
@[simp] theorem setPlace_shell (i : Station) (p : Place) : (s.setPlace i p).shell = s.shell := rfl
@[simp] theorem conditionGone_shell (c : Nat) : (s.conditionGone c).shell = s.shell := rfl

/-- Start control may change all but the straps and whether the station is in PARKING. -/
theorem setStart_shell {b : StartControl} (h : b.straps = s.start.straps)
    (hp : b.station = .parking ↔ s.start.station = .parking) : (s.setStart b).shell = s.shell := by
  simp only [shell, responsesOwed, setStart_pending, setStart_config, setStart_envelope, setStart_trips,
    setStart_pins, setStart_start, setStart_link, setStart_station, h, hp]
  rfl

/-! ### Queues -/

@[simp] theorem hold_shell (f : HeldFrames → HeldFrames) : (s.hold f).shell = s.shell := rfl
@[simp] theorem giveAlert_shell (a : Alert) : (s.giveAlert a).shell = s.shell := rfl
@[simp] theorem giveDirective_shell (d : Directive) : (s.giveDirective d).shell = s.shell := rfl

@[simp] theorem giveBeacon_shell (b : Beacon) : (s.giveBeacon b).shell = s.shell := rfl
@[simp] theorem giveParkingBeacon_shell (b : Beacon) : (s.giveParkingBeacon b).shell = s.shell := rfl
@[simp] theorem emptyBeaconSlot_shell : s.emptyBeaconSlot.shell = s.shell := rfl

@[simp] theorem giveWake_shell : s.giveWake.shell = s.shell := by
  unfold giveWake; split <;> simp

/-- An abandoned park takes the place that PARK-ENTER in flight was promised (R156, R166). -/
@[simp] theorem abandonPark_shell : s.abandonPark.shell = s.shell := by
  unfold abandonPark
  split
  next h => simp [shell, responsesOwed, station, setStation] at h ⊢; simp [h]
  all_goals rfl

/-! ### Fault table and stack -/

@[simp] theorem alertFor_shell (c : Nat) (l : Level) : (s.alertFor c l).shell = s.shell := by
  unfold alertFor; split <;> simp

@[simp] theorem take_shell (c : Nat) (l : Level) : (s.take c l).shell = s.shell := by simp [take]

@[simp] theorem createRecord_shell (r : Record) : (s.createRecord r).shell = s.shell := by
  simp only [createRecord]; split <;> simp

@[simp] theorem detach_shell (c : Nat) : (s.detach c).shell = s.shell := by
  unfold detach; split <;> simp

@[simp] theorem retake_shell : s.retake.shell = s.shell := by
  unfold retake; split <;> simp

@[simp] theorem removeRecord_shell (c : Nat) : (s.removeRecord c).shell = s.shell := by simp [removeRecord]

@[simp] theorem fold_shell (a : Raise) : (s.fold a).shell = s.shell := by
  unfold fold; split
  · simp
  · split <;> simp

@[simp] theorem abandonAt_shell (l : Level) : (s.abandonAt l).shell = s.shell := by
  unfold abandonAt; split <;> simp

@[simp] theorem raiseAbsent_shell (a : Raise) : (s.raiseAbsent a).shell = s.shell := by
  unfold raiseAbsent; split <;> simp

@[simp] theorem raise_shell (a : Raise) : (s.raise a).shell = s.shell := by
  simp only [raise]; split <;> simp

@[simp] theorem present_shell (a : Raise) : (s.present a).shell = s.shell := by
  unfold present; split
  · rfl
  · split <;> simp

@[simp] theorem replace_shell (a : Raise) : (s.replace a).shell = s.shell := by simp [replace]

@[simp] theorem raiseOrPresent_shell (b : Bool) (a : Raise) : (s.raiseOrPresent b a).shell = s.shell := by
  unfold raiseOrPresent; split <;> simp

/-! ### Quantity selector -/

@[simp] theorem workBand_shell : s.workBand.shell = s.shell := by simp [workBand]

@[simp] theorem conditionNow_shell (h n : Bool) (a : Raise) : (s.conditionNow h n a).shell = s.shell := by
  unfold conditionNow; repeat' split
  all_goals simp

@[simp] theorem checkSpeedUnknown_shell : s.checkSpeedUnknown.shell = s.shell := by simp [checkSpeedUnknown]
@[simp] theorem checkCharge_shell : s.checkCharge.shell = s.shell := by simp [checkCharge]

@[simp] theorem recordServed_shell (v : ServedValues) : (s.recordServed v).shell = s.shell := by
  simp only [recordServed]; split <;> simp

@[simp] theorem resolveQuantities_shell : s.resolveQuantities.shell = s.shell := by
  unfold resolveQuantities; split <;> simp

@[simp] theorem raiseAtEntry_shell : s.raiseAtEntry.shell = s.shell := by simp [raiseAtEntry]
@[simp] theorem endConditions_shell : s.endConditions.shell = s.shell := rfl

@[simp] theorem resetPersistence_shell : s.resetPersistence.shell = s.shell := by
  simp only [resetPersistence]; split <;> simp
@[simp] theorem mapOwn_shell (f : OwnValue → OwnValue) : (s.mapOwn f).shell = s.shell := rfl

@[simp] theorem refreshServed_shell : s.refreshServed.shell = s.shell := by
  unfold refreshServed; split <;> simp

/-! ### Quorum -/

@[simp] theorem isolate_shell : s.isolate.shell = s.shell := by simp [isolate]
@[simp] theorem readmitted_shell : s.readmitted.shell = s.shell := by simp [readmitted]

@[simp] theorem compareQuorum_shell : s.compareQuorum.shell = s.shell := by
  unfold compareQuorum; repeat' split
  all_goals simp

/-! ### Peer view -/

@[simp] theorem evalDown_shell (i : Station) (e e' : PeerEntry) : (s.evalDown i e e').shell = s.shell := by
  unfold evalDown; repeat' split
  all_goals simp

@[simp] theorem adoptLevel_shell (i : Station) (l : Option Level) : (s.adoptLevel i l).shell = s.shell := by
  unfold adoptLevel; repeat' split
  all_goals simp

@[simp] theorem evalPosture_shell (i : Station) (e e' : PeerEntry) : (s.evalPosture i e e').shell = s.shell := by
  unfold evalPosture; split <;> simp

@[simp] theorem presentPosture_shell (i : Station) : (s.presentPosture i).shell = s.shell := by
  unfold presentPosture; split <;> simp

@[simp] theorem evalMismatch_shell (i : Station) (e e' : PeerEntry) :
    (s.evalMismatch i e e').shell = s.shell := by simp [evalMismatch]

@[simp] theorem leaveOwed_shell (i : Station) (e e' : PeerEntry) : (s.leaveOwed i e e').shell = s.shell := by
  unfold leaveOwed; split <;> simp

@[simp] theorem compareAtTrust_shell (e e' : PeerEntry) : (s.compareAtTrust e e').shell = s.shell := by
  unfold compareAtTrust; split <;> simp

@[simp] theorem updatePeer_shell (i : Station) (e : PeerEntry) : (s.updatePeer i e).shell = s.shell := by
  simp [updatePeer]

@[simp] theorem hearPeer_shell (i : Station) (e : PeerEntry) : (s.hearPeer i e).shell = s.shell := by
  simp [hearPeer]

@[simp] theorem presentPeer_shell (i : Station) : (s.presentPeer i).shell = s.shell := by
  simp only [presentPeer]; repeat' split
  all_goals simp

@[simp] theorem mute_shell (i : Station) (r : MuteReason) : (s.mute i r).shell = s.shell := by simp [mute]

@[simp] theorem reportScore_shell (i : Station) : (s.reportScore i).shell = s.shell := by
  simp only [reportScore]; split <;> simp

@[simp] theorem reportSelfContained_shell (i : Station) : (s.reportSelfContained i).shell = s.shell := by
  simp only [reportSelfContained]; split <;> simp

@[simp] theorem updateScored_shell (i : Station) (e : PeerEntry) : (s.updateScored i e).shell = s.shell := by
  simp [updateScored]

@[simp] theorem hearScored_shell (i : Station) (e : PeerEntry) : (s.hearScored i e).shell = s.shell := by
  simp [hearScored]

@[simp] theorem crossCharge_shell (i : Station) : (s.crossCharge i).shell = s.shell := by
  simp only [crossCharge]; split <;> simp

/-! ### Isolation unit -/

@[simp] theorem giveCease_shell (i : Station) : (s.giveCease i).shell = s.shell := by
  simp only [giveCease]; repeat' split
  all_goals simp

@[simp] theorem owe_shell (i : Station) : (s.owe i).shell = s.shell := rfl

@[simp] theorem giveReadmit_shell (i : Station) : (s.giveReadmit i).shell = s.shell := by
  unfold giveReadmit; split <;> simp

@[simp] theorem directiveLost_shell (d : Directive) : (s.directiveLost d).shell = s.shell := by
  unfold directiveLost; repeat' split
  all_goals simp

@[simp] theorem enqueueRejoin_shell (i : Station) : (s.enqueueRejoin i).shell = s.shell := by
  unfold enqueueRejoin; split <;> simp

@[simp] theorem startProbation_shell : s.startProbation.shell = s.shell := by
  unfold startProbation; repeat' split
  all_goals simp

@[simp] theorem endProbation_shell (i : Station) : (s.endProbation i).shell = s.shell := rfl
@[simp] theorem failProbation_shell (i : Station) : (s.failProbation i).shell = s.shell := by simp [failProbation]
@[simp] theorem abandonProbation_shell (i : Station) : (s.abandonProbation i).shell = s.shell := by
  simp [abandonProbation]
@[simp] theorem passProbation_shell (i : Station) : (s.passProbation i).shell = s.shell := by simp [passProbation]

/-! ### Start control -/

@[simp] theorem checkCondition_shell (h n : Bool) (a : Raise) : (s.checkCondition h n a).shell = s.shell := by
  unfold checkCondition; repeat' split
  all_goals simp

@[simp] theorem populationCheck_shell : s.populationCheck.shell = s.shell := by
  simp only [populationCheck, checkCondition_shell]
  exact s.setStart_shell rfl Iff.rfl

@[simp] theorem recheckPopulation_shell : s.recheckPopulation.shell = s.shell := by
  unfold recheckPopulation; split <;> simp

@[simp] theorem presentPopulation_shell : s.presentPopulation.shell = s.shell := by
  simp only [presentPopulation]; repeat' split
  all_goals simp

@[simp] theorem ownClash_shell : s.ownClash.shell = s.shell := by simp [ownClash]

@[simp] theorem hearRole_shell (i : Station) (r : Role) : (s.hearRole i r).shell = s.shell := by
  unfold hearRole; repeat' split
  all_goals simp

@[simp] theorem raiseSupervision_shell : s.raiseSupervision.shell = s.shell := by simp [raiseSupervision]
@[simp] theorem startSupervision_shell : s.startSupervision.shell = s.shell := rfl

@[simp] theorem startAtEntry_shell : s.startAtEntry.shell = s.shell := by
  unfold startAtEntry; repeat' split
  all_goals simp

@[simp] theorem refreshError_shell : s.refreshError.shell = s.shell := by
  simp only [refreshError]; split <;> simp

@[simp] theorem checkAfterPark_shell (s0 : State) : (s0.checkAfterPark s).shell = s.shell := by
  unfold checkAfterPark; split <;> simp

/-! ### Handover: all but the envelope and the pins -/

@[simp] theorem contactorAtSeven_shell : s.contactorAtSeven.shell = s.shell := by
  unfold contactorAtSeven; repeat' split
  all_goals simp

@[simp] theorem contactorBelowSeven_shell : s.contactorBelowSeven.shell = s.shell := by
  unfold contactorBelowSeven; split <;> simp

@[simp] theorem placeContactor_shell : s.placeContactor.shell = s.shell := by
  unfold placeContactor; split <;> simp

@[simp] theorem handToContactor_shell (s0 : State) : (s0.handToContactor s).shell = s.shell := by
  unfold handToContactor; repeat' split
  all_goals simp

@[simp] theorem followSuspension_shell (s0 : State) : (s0.followSuspension s).shell = s.shell := by
  unfold followSuspension; split <;> simp

end State

end Sys2Proof.Machine
end

