-- ==== Sys2Proof/Laws/Handling.lean ====
section
/-! SUPPORT. The operations of each family leave the shell alone, and what a handling's end does to it. -/

namespace Sys2Proof.Machine

namespace State

variable (s : State)

/-- A fold of operations that each leave the shell alone leaves it alone. -/
theorem foldl_shell {α : Type} (f : State → α → State) (h : ∀ t a, (f t a).shell = t.shell) :
    ∀ (l : List α) (t : State), (l.foldl f t).shell = t.shell
  | [], _ => rfl
  | a :: l, t => by rw [List.foldl_cons, foldl_shell f h l, h]

/-! ### Station states -/

/-- The entry to JOIN from a state other than PARKING. -/
theorem enterJoin_shell (h : s.station ≠ .parking) : s.enterJoin.shell = s.shell := by
  have : (s.setStart { s.start with
      station := .join, discovery := 0, beaconTimer := some (periodMs s.config.period) }).shell = s.shell :=
    s.setStart_shell rfl ⟨fun h' => (nomatch h'), fun h' => absurd h' h⟩
  simpa [enterJoin] using this

/-- The entry to RUN from a state other than PARKING. -/
theorem enterRun_shell (h : s.station ≠ .parking) : s.enterRun.shell = s.shell := by
  have : (s.setStart { s.start with station := .run, everRun := true }).shell = s.shell :=
    s.setStart_shell rfl ⟨fun h' => (nomatch h'), fun h' => absurd h' h⟩
  rw [enterRun, startAtEntry_shell, compareQuorum_shell, raiseAtEntry_shell, populationCheck_shell, this]

theorem wakeLocally_shell (h : s.station ≠ .parking) : s.wakeLocally.shell = s.shell := by
  have hw : s.giveWake.station = s.station := by unfold giveWake; split <;> rfl
  rw [wakeLocally, enterJoin_shell _ (hw ▸ h), giveWake_shell]

@[simp] theorem discardDirectives_shell : s.discardDirectives.shell = s.shell := by
  simp only [discardDirectives]
  exact foldl_shell _ (fun t (q : Queued Directive) => t.directiveLost_shell q.frame) _ _

/-! ### Own expiries -/

@[simp] theorem countRecords_shell (l : List Later) : (s.countRecords l).shell = s.shell := by
  simp only [countRecords]
  rw [foldl_shell _ fun t c => t.removeRecord_shell c, setEngine_shell]

@[simp] theorem releaseContactor_shell : s.releaseContactor.shell = s.shell := rfl

@[simp] theorem countRelease_shell (l : List Later) : (s.countRelease l).shell = s.shell := by
  simp only [countRelease]; repeat' split
  all_goals simp

@[simp] theorem countClashes_shell (l : List Later) : (s.countClashes l).shell = s.shell := by
  simp only [countClashes]; split
  · rw [recheckPopulation_shell]; exact s.setStart_shell rfl Iff.rfl
  · exact s.setStart_shell rfl Iff.rfl

@[simp] theorem presentRoles_shell : s.presentRoles.shell = s.shell := by
  unfold presentRoles; split <;> simp

@[simp] theorem agePlaces_shell (l : List Later) : (s.agePlaces l).shell = s.shell := by simp [agePlaces]

@[simp] theorem countHolds_shell : s.countHolds.shell = s.shell := by
  unfold countHolds; split <;> simp

@[simp] theorem rejoinTimedOut_shell : s.rejoinTimedOut.shell = s.shell := rfl

@[simp] theorem countRejoin_shell (l : List Later) : (s.countRejoin l).shell = s.shell := by
  simp only [countRejoin]; repeat' split
  all_goals simp

@[simp] theorem retryOwed_shell : s.retryOwed.shell = s.shell := by
  unfold retryOwed; exact foldl_shell _ (fun t i => t.giveReadmit_shell i) _ _

@[simp] theorem agePeer_shell (i : Station) : (s.agePeer i).shell = s.shell := by
  simp only [agePeer]; repeat' split
  all_goals simp

@[simp] theorem losePeer_shell (i : Station) : (s.losePeer i).shell = s.shell := by simp [losePeer]

@[simp] theorem countSelf_shell (i : Station) : (s.countSelf i).shell = s.shell := by
  simp only [countSelf]; split <;> simp

@[simp] theorem selfPeriod_shell (l : List Later) (i : Station) : (s.selfPeriod l i).shell = s.shell := by
  simp only [selfPeriod]; split <;> simp

@[simp] theorem peerPeriod_shell (l : List Later) (i : Station) : (s.peerPeriod l i).shell = s.shell := by
  simp only [peerPeriod]; repeat' split
  all_goals simp

@[simp] theorem peersPeriod_shell (l : List Later) : (s.peersPeriod l).shell = s.shell := by
  unfold peersPeriod; split
  · exact foldl_shell _ (fun t i => t.peerPeriod_shell l i) _ _
  · rfl

@[simp] theorem presentPeers_shell : s.presentPeers.shell = s.shell := by
  unfold presentPeers; exact foldl_shell _ (fun t i => t.presentPeer_shell i) _ _

@[simp] theorem setDisputed_shell (a b : Bool) : (s.setDisputed a b).shell = s.shell := by
  simp only [setDisputed, conditionNow_shell]; split <;> simp

@[simp] theorem chargeOutlier_shell (x : Option Station) : (s.chargeOutlier x).shell = s.shell := by
  unfold chargeOutlier; repeat' split
  all_goals simp

@[simp] theorem evaluateChecks_shell (l : List Later) : (s.evaluateChecks l).shell = s.shell := by
  simp [evaluateChecks]

@[simp] theorem setBrake_shell (n : Nat) (b : Bool) : (s.setBrake n b).shell = s.shell := rfl
@[simp] theorem beginBrake_shell : s.beginBrake.shell = s.shell := by simp [beginBrake]

@[simp] theorem countBrake_shell (l : List Later) : (s.countBrake l).shell = s.shell := by
  simp only [countBrake]; repeat' split
  all_goals simp

@[simp] theorem presentIf_shell (b : Bool) (a : Raise) : (s.presentIf b a).shell = s.shell := by
  unfold presentIf; split <;> simp

@[simp] theorem presentSelector_shell : s.presentSelector.shell = s.shell := by simp [presentSelector]

@[simp] theorem selectorPeriod_shell (l : List Later) : (s.selectorPeriod l).shell = s.shell := by
  simp only [selectorPeriod]; split <;> simp

@[simp] theorem presentLine_shell : s.presentLine.shell = s.shell := by simp [presentLine]
@[simp] theorem periodicBeacon_shell : s.periodicBeacon.shell = s.shell := by simp [periodicBeacon]

@[simp] theorem countDiscovery_shell (l : List Later) : (s.countDiscovery l).shell = s.shell := by
  simp only [countDiscovery]
  have hs : (s.setStart { s.start with
      discovery := addSat Config.joinPeriods s.start.discovery 1 }).shell = s.shell :=
    s.setStart_shell rfl Iff.rfl
  split
  next h =>
    split
    · rw [enterRun_shell, hs]
      have h' : s.start.station = .join := h
      simp [h']
    · exact hs
  next => rfl

@[simp] theorem persist_shell (c : Check) : (s.persist c).shell = s.shell := by
  unfold persist; split <;> simp

@[simp] theorem dropCease_shell (i : Station) : (s.dropCease i).shell = s.shell := by simp [dropCease]
@[simp] theorem dropReadmit_shell (i : Station) : (s.dropReadmit i).shell = s.shell := by simp [dropReadmit]

@[simp] theorem supervisionExpiry_shell : s.supervisionExpiry.shell = s.shell := by simp [supervisionExpiry]

/-! ### Sending -/

@[simp] theorem clearFailures_shell : s.clearFailures.shell = s.shell := by
  simp only [clearFailures]; split <;> simp

@[simp] theorem alertFailed_shell : s.alertFailed.shell = s.shell := by
  unfold alertFailed; split <;> simp

@[simp] theorem directiveFailed_shell : s.directiveFailed.shell = s.shell := by
  unfold directiveFailed; repeat' split
  all_goals simp

@[simp] theorem beaconFailed_shell : s.beaconFailed.shell = s.shell := by
  unfold beaconFailed; repeat' split
  all_goals simp

@[simp] theorem wakeFailed_shell : s.wakeFailed.shell = s.shell := by
  unfold wakeFailed; split <;> simp

@[simp] theorem frameFailed_shell (k : TxQueue) : (s.frameFailed k).shell = s.shell := by
  unfold frameFailed; split <;> simp

@[simp] theorem raiseTxFail_shell (n : Nat) : (s.raiseTxFail n).shell = s.shell := by
  unfold raiseTxFail; split <;> simp

/-! ### Receiving -/

@[simp] theorem goodFrame_shell : s.goodFrame.shell = s.shell := by
  simp only [goodFrame]; split <;> simp

@[simp] theorem badFrame_shell : s.badFrame.shell = s.shell := by
  simp only [badFrame]; split <;> simp

@[simp] theorem chargeBadFrame_shell (i : Station) : (s.chargeBadFrame i).shell = s.shell := by
  simp only [chargeBadFrame]; split <;> simp

@[simp] theorem damaged_shell (i : Station) : (s.damaged i).shell = s.shell := by
  unfold damaged; split <;> simp

@[simp] theorem countMuted_shell (i : Station) : (s.countMuted i).shell = s.shell := by
  simp only [countMuted]; split <;> simp

@[simp] theorem countClean_shell (i : Station) (p : Probation) : (s.countClean i p).shell = s.shell := by
  simp only [countClean]; split <;> simp

@[simp] theorem takeBeacon_shell (b : Beacon) : (s.takeBeacon b).shell = s.shell := by
  unfold takeBeacon
  split <;> simp only [beaconAtAbsent, beaconAtParked, beaconAtTrusted, beaconAtLost, beaconAtMuted,
    beaconAtProbation, beaconOnProbation, peerRestarts, peerParks] <;> (repeat' split) <;> simp

@[simp] theorem takeAlert_shell (a : Alert) : (s.takeAlert a).shell = s.shell := by
  simp only [takeAlert]; repeat' split
  all_goals simp

@[simp] theorem abandonRejoin_shell : s.abandonRejoin.shell = s.shell := by
  unfold abandonRejoin; split <;> simp

@[simp] theorem ceased_shell (c : Cease) : (s.ceased c).shell = s.shell := by simp [ceased]

@[simp] theorem takeCease_shell (c : Cease) : (s.takeCease c).shell = s.shell := by
  unfold takeCease; repeat' split
  all_goals simp

@[simp] theorem takeReadmit_shell (r : Readmit) : (s.takeReadmit r).shell = s.shell := by
  unfold takeReadmit; split <;> simp

@[simp] theorem setStuck_shell (c : StuckLine) : (s.setStuck c).shell = s.shell := rfl

@[simp] theorem stick_shell : s.stick.shell = s.shell := by
  unfold stick; split <;> simp

@[simp] theorem unstick_shell : s.unstick.shell = s.shell := by simp [unstick]

/-! ### The end of a handling -/

/-- The last two operations of a handling. -/
def close (s0 s : State) : State := (s0.handToEnvelope s).drivePins

theorem handOver_eq (s0 : State) :
    ∃ u, s0.handOver s = s0.close u ∧ u.shell = s.shell :=
  ⟨_, rfl, by simp⟩

theorem finish_eq (s0 : State) :
    ∃ u, s0.finish s = s0.close u ∧ u.shell = s.shell :=
  ⟨_, rfl, by simp⟩

end State

end Sys2Proof.Machine
end

