-- ==== Sys2Proof/Laws/Close.lean ====
section
/-! SUPPORT. The end of a handling: pins, envelope and response queue. -/

namespace Sys2Proof.Machine

/-! ### Pins -/

@[simp] theorem State.drivePins_outputs (s : State) : s.drivePins.outputs = s.outputs := rfl

theorem PinsFollow.drivePins (s : State) : PinsFollow s.drivePins := rfl

theorem PinsFollow.close (s0 s : State) : PinsFollow (s0.close s) := rfl

/-! ### Envelope -/

@[simp] theorem State.setEnvelope_inputs (s : State) (e : Envelope) :
    (s.setEnvelope e).envelopeInputs = s.envelopeInputs := rfl

@[simp] theorem State.drivePins_inputs (s : State) : s.drivePins.envelopeInputs = s.envelopeInputs := rfl

theorem rampTimer_isSome (t o : Nat) (x : Option Nat) : (rampTimer t o x).isSome ↔ o < t := by
  unfold rampTimer; split
  · cases x <;> simpa
  · simp; omega

/-- One recomputation makes the envelope fit (R123, R129, R130). -/
theorem EnvelopeLaw.recompute (s : State) : EnvelopeLaw s.recompute :=
  ⟨rfl, rfl, min_le_right _ _, min_le_right _ _, rampTimer_isSome _ _ _, rampTimer_isSome _ _ _⟩

theorem nextRise_isSome {t o : Nat} (h : o ≤ t) : (nextRise t o).isSome ↔ o < t := by
  unfold nextRise; split
  · simp; omega
  · simp; omega

/-- A step of a rise keeps the envelope fitting (R130). -/
theorem EnvelopeFits.riseMotoring {x : EnvelopeInputs} {e : Envelope} (h : EnvelopeFits x e) (n : Nat) :
    EnvelopeFits x (e.riseMotoring n) :=
  ⟨h.1, h.2.1, min_le_left _ _, h.2.2.2.1, nextRise_isSome (min_le_left _ _), h.2.2.2.2.2⟩

theorem EnvelopeFits.riseRegen {x : EnvelopeInputs} {e : Envelope} (h : EnvelopeFits x e) (n : Nat) :
    EnvelopeFits x (e.riseRegen n) :=
  ⟨h.1, h.2.1, h.2.2.1, min_le_left _ _, h.2.2.2.2.1, nextRise_isSome (min_le_left _ _)⟩

/-- A handover leaves the envelope fitting when it fitted the inputs the handling began with (R123). -/
theorem EnvelopeLaw.close {s0 s : State} (h : EnvelopeFits s0.envelopeInputs s.envelope) :
    EnvelopeLaw (s0.close s) := by
  simp only [State.close, State.handToEnvelope]
  split
  next he => rw [he] at h; exact h
  next => exact EnvelopeLaw.recompute s

/-! ### Shell -/

theorem shell_envelope {s t : State} (h : t.shell = s.shell) : t.envelope = s.envelope := congrArg Shell.envelope h
theorem shell_owed {s t : State} (h : t.shell = s.shell) : t.responsesOwed = s.responsesOwed :=
  congrArg Shell.owed h
theorem shell_pending {s t : State} (h : t.shell = s.shell) : t.pending = s.pending := congrArg Shell.pending h
theorem shell_config {s t : State} (h : t.shell = s.shell) : t.config = s.config := congrArg Shell.config h
theorem shell_trips {s t : State} (h : t.shell = s.shell) : t.trips = s.trips := congrArg Shell.trips h

@[simp] theorem State.handToEnvelope_owed (s0 s : State) :
    (s0.handToEnvelope s).responsesOwed = s.responsesOwed := by
  unfold State.handToEnvelope; split <;> rfl

@[simp] theorem State.close_owed (s0 s : State) : (s0.close s).responsesOwed = s.responsesOwed :=
  s0.handToEnvelope_owed s

@[simp] theorem State.close_pending (s0 s : State) : (s0.close s).pending = s.pending := by
  simp only [State.close, State.handToEnvelope, State.drivePins_pending]; split <;> rfl

@[simp] theorem State.close_config (s0 s : State) : (s0.close s).config = s.config := by
  simp only [State.close, State.handToEnvelope, State.drivePins_config]; split <;> rfl

@[simp] theorem State.close_trips (s0 s : State) : (s0.close s).trips = s.trips := by
  simp only [State.close, State.handToEnvelope, State.drivePins_trips]; split <;> rfl

@[simp] theorem State.close_engine (s0 s : State) : (s0.close s).engine = s.engine := by
  simp only [State.close, State.handToEnvelope, State.drivePins_engine]; split <;> rfl

@[simp] theorem State.close_peers (s0 s : State) : (s0.close s).peers = s.peers := by
  simp only [State.close, State.handToEnvelope, State.drivePins_peers]; split <;> rfl

@[simp] theorem State.close_isolation (s0 s : State) : (s0.close s).isolation = s.isolation := by
  simp only [State.close, State.handToEnvelope, State.drivePins_isolation]; split <;> rfl

@[simp] theorem State.close_start (s0 s : State) : (s0.close s).start = s.start := by
  simp only [State.close, State.handToEnvelope, State.drivePins_start]; split <;> rfl

@[simp] theorem State.close_line (s0 s : State) : (s0.close s).line = s.line := by
  simp only [State.close, State.handToEnvelope, State.drivePins_line]; split <;> rfl

@[simp] theorem State.close_selector (s0 s : State) : (s0.close s).selector = s.selector := by
  simp only [State.close, State.handToEnvelope, State.drivePins_selector]; split <;> rfl

@[simp] theorem State.close_supervision (s0 s : State) : (s0.close s).supervision = s.supervision := by
  simp only [State.close, State.handToEnvelope, State.drivePins_supervision]; split <;> rfl

@[simp] theorem State.close_link (s0 s : State) : (s0.close s).link = s.link := by
  simp only [State.close, State.handToEnvelope, State.drivePins_link]; split <;> rfl

/-! ### A handling that leaves the shell alone -/

/-- Three laws at the end of a handling whose operations left the shell alone. -/
theorem finish_laws {s0 s : State} (h : s.shell = s0.shell) :
    PinsFollow (s0.finish s) ∧ (ResponsesFit s0 → ResponsesFit (s0.finish s))
      ∧ (EnvelopeLaw s0 → EnvelopeLaw (s0.finish s)) := by
  obtain ⟨u, hu, hs⟩ := s.finish_eq s0
  have hus := hs.trans h
  rw [hu]
  refine ⟨PinsFollow.close s0 u, fun hf => ?_, fun he => EnvelopeLaw.close ?_⟩
  · rw [ResponsesFit, State.close_owed, shell_owed hus]; exact hf
  · rw [shell_envelope hus]; exact he

theorem handOver_laws {s0 s : State} (he : s.envelope = s0.envelope) :
    PinsFollow (s0.handOver s) ∧ (EnvelopeLaw s0 → EnvelopeLaw (s0.handOver s))
      ∧ (s0.handOver s).responsesOwed = s.responsesOwed := by
  obtain ⟨u, hu, hs⟩ := s.handOver_eq s0
  rw [hu]
  refine ⟨PinsFollow.close s0 u, fun hl => EnvelopeLaw.close ?_, ?_⟩
  · rw [shell_envelope hs, he]; exact hl
  · rw [State.close_owed, shell_owed hs]

end Sys2Proof.Machine
end

