-- ==== Sys2Proof/Laws/Finish.lean ====
section
/-! SUPPORT. The end of a handling that left little to do: each part of `finish` and of `handOver` that finds nothing
changed leaves the state as it is; a request that its station state takes; and what a handover and a resolution leave in
every case. -/

namespace Sys2Proof.Machine

namespace State

variable {s0 s : State}

/-! ### The parts of `finish` -/

theorem refreshServed_of_resolved (h : s.resolved = s.selector.served) : s.refreshServed = s := if_pos h

theorem startProbation_of_running (h : s.isolation.queue = [] ∨ s.isolation.probation.isSome = true) :
    s.startProbation = s := by
  unfold startProbation; repeat' split
  next hp hq => simp [hp, hq] at h
  all_goals rfl

theorem settle_of_settled (h : Settled s) : s.refreshServed.startProbation = s := by
  rw [refreshServed_of_resolved h.1, startProbation_of_running h.2]

theorem checkAfterPark_of_same (h : s.station = s0.station) : s0.checkAfterPark s = s := by
  unfold checkAfterPark; split
  next hp => simp [h, hp.1] at hp
  next => rfl

/-- A handling that leaves the served values, the rejoin queue and the station state as they were ends in its
handover alone. -/
theorem finish_of_settled (hs : Settled s) (hst : s.station = s0.station) : s0.finish s = s0.handOver s := by
  simp only [finish, settle_of_settled hs, checkAfterPark_of_same hst]

/-! ### The parts of `handOver` -/

theorem handToContactor_of_same (hc : s.engine.cl = s0.engine.cl)
    (hd : s.driveCondition = s0.driveCondition) (hj : s0.station ≠ .join) : s0.handToContactor s = s := by
  simp [handToContactor, contactorMoved, hc, hd, hj]

theorem followSuspension_of_same (hc : s.engine.cl = s0.engine.cl) : s0.followSuspension s = s := if_pos hc.symm

theorem handToEnvelope_of_same (hi : s.envelopeInputs = s0.envelopeInputs) : s0.handToEnvelope s = s :=
  if_pos hi.symm

/-- A handover that finds CL, the drive condition and the envelope's inputs as they were moves the pins
alone (R105). -/
theorem handOver_of_same (hc : s.engine.cl = s0.engine.cl) (hd : s.driveCondition = s0.driveCondition)
    (hj : s0.station ≠ .join) (hi : s.envelopeInputs = s0.envelopeInputs) : s0.handOver s = s.drivePins := by
  rw [handOver, handToContactor_of_same hc hd hj, followSuspension_of_same hc, handToEnvelope_of_same hi]

/-- Where the pins followed before and show the same things, they stay. -/
theorem drivePins_of_follow (h : PinsFollow s) : s.drivePins = s := by
  unfold drivePins setPins; rw [← h]

/-! ### Requests -/

/-- While PARK-ENTER is in flight every request is answered BUSY (R156). -/
theorem takeRequest_busy (q : Request) (effect : State → Answer) (h : s.station = .parking) :
    s.takeRequest q effect = s.clockOut.respond (Response.plain q.code .busy) := if_pos h

@[simp] theorem clockOut_start : s.clockOut.start = s.start := by unfold clockOut; split <;> rfl
@[simp] theorem clockOut_supervision : s.clockOut.supervision = s.supervision := by
  unfold clockOut; split <;> rfl

@[simp] theorem clockOut_responses : s.clockOut.link.responses = s.link.responses.tail := by
  unfold clockOut; split
  next h => simp [setLink, h]
  next h => simp [setLink, h]

@[simp] theorem clockOut_out : s.clockOut.link.out = some s.nextOut := by
  unfold clockOut nextOut; split <;> rename_i h <;> simp [setLink, h]

/-- Without a first token no request is a refresh error (R159). -/
theorem tokenRule_of_clear (q : Request) (h : s.supervision.firstToken = false) : s.tokenRule q = s := by
  simp [tokenRule, h]

/-- A request that the station state takes runs its own rule, with no token standing and both acceptors at
their own (R155, R159, R162, R163). -/
theorem takeRequest_of_ready (q : Request) (effect : State → Answer) (h : Ready q s) :
    s.takeRequest q effect
      = s.handOver (deliver (effect ((s.clockOut.disarmRestart q).parkRule q))) := by
  obtain ⟨hp, ht, hf⟩ := h
  have hu : s.clockOut.takeUp q = (s.clockOut.disarmRestart q).parkRule q := by
    rw [takeUp, tokenRule_of_clear q (by simpa using hf)]
  have hst : ((s.clockOut.disarmRestart q).parkRule q).station = s.station := by
    unfold parkRule disarmRestart disarmPark
    repeat' split
    all_goals simp [station, setStart, setLink]
  simp only [takeRequest, if_neg hp, hu, hst, ht, if_true]

end State

/-! ### What a handover and a resolution leave -/

variable {s0 s : State}

/-- What the contactor sequence leaves alone: everything but its own state and count (R116). -/
theorem handToContactor_only (s0 s : State) : ∃ c n, s0.handToContactor s = s.setContactor c n := by
  unfold State.handToContactor State.placeContactor State.contactorAtSeven State.contactorBelowSeven
  repeat' split
  all_goals exact ⟨_, _, rfl⟩

/-- The contactor sequence within one station state follows CL and the drive condition (R116 to R121). -/
theorem ContactorFollows.handToContactor (hc : s.engine.contactor = s0.engine.contactor)
    (hr : s.engine.releaseCount = s0.engine.releaseCount) (hp : s.start.straps = s0.start.straps)
    (hst : s.station = s0.station) : ContactorFollows s0 (s0.handToContactor s) := by
  have hd : (s0.handToContactor s).driveCondition = s.driveCondition := by
    obtain ⟨c, n, h⟩ := handToContactor_only s0 s; rw [h]; rfl
  have hl : (s0.handToContactor s).engine.cl = s.engine.cl := by
    obtain ⟨c, n, h⟩ := handToContactor_only s0 s; rw [h]; rfl
  rw [ContactorFollows, hd, hl]
  cases hs : s.station <;> cases hk : s.engine.contactor <;>
    simp [State.handToContactor, State.contactorMoved, State.contactorAtSeven, State.contactorBelowSeven,
      State.setContactor, ← hc, ← hr, ← hp, ← hst, hs, hk, StationState.riding] <;>
    (repeat' split) <;> simp_all [State.setEngine]

/-- The handover of a handling that left the envelope, the suspension flag and the contactor sequence to it, within one
station state (R105). -/
theorem HandedOver.handOver (he : s.envelope = s0.envelope)
    (hs : s.isolation.suspended = s0.isolation.suspended) (hc : s.engine.contactor = s0.engine.contactor)
    (hr : s.engine.releaseCount = s0.engine.releaseCount) (hp : s.start.straps = s0.start.straps)
    (hst : s.station = s0.station) : HandedOver s0 (s0.handOver s) := by
  obtain ⟨hk, hu⟩ : ContactorFollows s0 (s0.handToContactor s)
      ∧ ∃ c n, s0.handToContactor s = s.setContactor c n :=
    ⟨ContactorFollows.handToContactor hc hr hp hst, handToContactor_only s0 s⟩
  obtain ⟨c, n, hu⟩ := hu
  rw [hu] at hk
  refine ⟨PinsFollow.drivePins _, ?_, ?_, ?_⟩ <;>
    simp only [State.handOver, hu, State.followSuspension, State.handToEnvelope, State.recompute]
  · simp only [EnvelopeFollows]
    (repeat' split) <;> simp_all [State.setContactor]
  · simp only [SuspensionFollows]
    (repeat' split) <;> simp_all [State.setContactor] <;> rfl
  · (repeat' split) <;> exact hk

/-- Recorded served values leave the band or work it out afresh (R70). -/
theorem BandFollows.recordServed (s : State) (v : ServedValues) : BandFollows s (s.recordServed v) := by
  by_cases h : v.speed = s.selector.served.speed
  · simp [BandFollows, State.recordServed, h, State.setSelector]
  · cases hv : v.speed <;> cases hd : s.selector.speedDisputed <;>
      simp_all [BandFollows, State.recordServed, State.workBand, bandFrom, State.setSelector]

end Sys2Proof.Machine
end

