-- ==== Sys2Proof/Laws/Directives.lean ====
section
/-! SUPPORT. Directives reported lost, and the READMITs that are owed (R139, R152). -/

namespace Sys2Proof.Machine

/-! ### The readmit-owed list -/

theorem mem_insertStation (i j : Station) (l : List Station) : j ∈ insertStation i l ↔ j = i ∨ j ∈ l := by
  induction l with
  | nil => simp [insertStation]
  | cons k rest ih =>
    unfold insertStation; split
    · simp
    · split
      next h => simp [h]
      next => simp [ih]; tauto

theorem insertStation_ascending {l : List Station} (i : Station) (h : l.Pairwise (· < ·)) :
    (insertStation i l).Pairwise (· < ·) := by
  induction l with
  | nil => simp [insertStation]
  | cons k rest ih =>
    have hk := List.pairwise_cons.1 h
    unfold insertStation; split
    next hi => exact List.pairwise_cons.2 ⟨fun j hj => by
      rcases List.mem_cons.1 hj with rfl | hj
      · exact hi
      · exact hi.trans (hk.1 j hj), h⟩
    next hi =>
      split
      next => exact h
      next hne =>
        refine List.pairwise_cons.2 ⟨fun j hj => ?_, ih hk.2⟩
        rcases (mem_insertStation i j rest).1 hj with rfl | hj
        · exact lt_of_le_of_ne (not_lt.1 hi) (Ne.symm hne)
        · exact hk.1 j hj

/-- A list that holds `i` already stays as it is. -/
theorem insertStation_of_mem {l : List Station} {i : Station} (h : l.Pairwise (· < ·)) (hi : i ∈ l) :
    insertStation i l = l := by
  induction l with
  | nil => simp at hi
  | cons k rest ih =>
    have hk := List.pairwise_cons.1 h
    unfold insertStation
    rcases List.mem_cons.1 hi with rfl | hm
    · simp
    · have := hk.1 i hm
      rw [if_neg this.not_gt, if_neg (ne_of_gt this), ih hk.2 hm]

theorem OwedLaw.owe {s : State} {i : Station} (h : OwedLaw s) (hi : (s.peer i).state.trusted = true) :
    OwedLaw (s.owe i) :=
  ⟨insertStation_ascending i h.1, fun j hj => by
    rcases (mem_insertStation i j _).1 hj with rfl | hj
    · exact hi
    · exact h.2 j hj⟩

/-! ### Directives lost -/

/-- A directive reported dropped (R139, R152). -/
theorem DirectivesLost.directiveLost (s : State) (d : Directive) : DirectivesLost [d] s (s.directiveLost d) := by
  cases d with
  | cease i r =>
    simp only [State.directiveLost]
    split
    next h =>
      refine ⟨fun j => ?_, fun j => by simp, fun ho => ⟨ho.1, fun j hj => ?_⟩⟩
      · rw [State.setPeer_peer]; cases r <;> split <;> simp_all
      · have ht := ho.2 j hj
        rw [State.setPeer_peer]; split
        next he => rw [← he]; exact ht
        next => exact ht
    next h =>
      refine ⟨fun j => ?_, fun j => by simp, id⟩
      split
      next hj =>
        have : j = i := by rcases hj.2 with h | h <;> simp at h <;> exact h.1
        exact absurd (this ▸ hj.1) h
      next => rfl
  | readmit i =>
    simp only [State.directiveLost]
    split
    next h =>
      exact ⟨fun j => by simp [State.owe], fun j => by
        simp only [State.owe, State.setIsolation_isolation, mem_insertStation, List.mem_singleton,
          Directive.readmit.injEq]
        constructor
        · rintro (rfl | hj)
          · exact .inr ⟨rfl, h⟩
          · exact .inl hj
        · rintro (hj | ⟨rfl, -⟩)
          · exact .inr hj
          · exact .inl rfl, fun ho => ho.owe h⟩
    next h =>
      refine ⟨fun j => by simp, fun j => ?_, id⟩
      simp only [List.mem_singleton, Directive.readmit.injEq]
      constructor
      · exact .inl
      · rintro (hj | ⟨rfl, ht⟩)
        · exact hj
        · exact absurd ht h


/-! ### READMITs given -/

/-- What giving a READMIT does (R20, R152). -/
theorem giveReadmit_eq (s : State) (i : Station) : s.giveReadmit i =
    if .readmit i ∈ s.line.directives.map Queued.frame then
      s.setIsolation { s.isolation with owed := s.isolation.owed.filter fun j => j != i }
    else if s.line.directives.length < 4 then
      (s.setLine { s.line with directives := s.line.directives ++ [Queued.fresh (.readmit i)] }).setIsolation
        { s.isolation with owed := s.isolation.owed.filter fun j => j != i }
    else s.owe i := by
  have hw : (s.line.directives.any fun q => (Directive.readmit i).same q.frame)
      = decide (Directive.readmit i ∈ s.line.directives.map Queued.frame) := by
    induction s.line.directives with
    | nil => simp
    | cons q rest ih =>
      rw [List.any_cons, ih]
      cases hq : q.frame <;> simp [Directive.same, hq]
  by_cases h : Directive.readmit i ∈ s.line.directives.map Queued.frame
  · simp only [State.giveReadmit, directiveOutcome, hw, h, decide_true, if_true]
  · by_cases hl : s.line.directives.length < 4
    · simp only [State.giveReadmit, State.giveDirective, placeDirective, directiveOutcome, hw, h, hl, Config.queueCapacity,
        decide_false, if_true, if_false, Bool.false_eq_true]
    · simp only [State.giveReadmit, directiveOutcome, hw, h, hl, Config.queueCapacity, decide_false, if_false,
        Bool.false_eq_true]

theorem filter_ne_of_lt {l : List Station} {i : Station} (h : ∀ j ∈ l, j ≠ i) :
    (l.filter fun j => j != i) = l := List.filter_eq_self.2 fun j hj => by simpa using h j hj

/-- The directive queue and the readmit-owed list replaced. -/
def State.setOwed (s : State) (d : List (Queued Directive)) (l : List Station) : State :=
  (s.setLine { s.line with directives := d }).setIsolation { s.isolation with owed := l }

/-- The READMITs of `l` given in ascending order, those of `pre` having been refused (R20, R152): those that do not wait
and find a place join the queue, and the others that do not wait stay owed. -/
theorem foldl_giveReadmit (l pre : List Station) (s : State) (hp : (pre ++ l).Pairwise (· < ·))
    (ho : s.isolation.owed = pre ++ l) (hfull : pre = [] ∨ 4 ≤ s.line.directives.length)
    (due : List Station)
    (hd : due = l.filter fun i => decide (Directive.readmit i ∉ s.line.directives.map Queued.frame)) :
    l.foldl State.giveReadmit s =
      s.setOwed
        (s.line.directives
          ++ (due.take (4 - s.line.directives.length)).map fun i => Queued.fresh (.readmit i))
        (pre ++ due.drop (4 - s.line.directives.length)) := by
  induction l generalizing pre s due with
  | nil => subst hd; simp [State.setOwed, State.setLine, State.setIsolation, ← ho]
  | cons i rest ih =>
    have hpi : ∀ j ∈ pre, j ≠ i := fun j hj => ne_of_lt ((List.pairwise_append.1 hp).2.2 j hj i (by simp))
    have hri : ∀ j ∈ rest, j ≠ i := fun j hj =>
      ne_of_gt ((List.pairwise_cons.1 (List.pairwise_append.1 hp).2.1).1 j hj)
    have hrest : (pre ++ rest).Pairwise (· < ·) := hp.sublist (by simp)
    have hout : (s.isolation.owed.filter fun j => j != i) = pre ++ rest := by
      rw [ho]; simp [List.filter_append, filter_ne_of_lt hpi, filter_ne_of_lt hri]
    rw [List.foldl_cons, giveReadmit_eq, hout]
    split
    next hw =>
      have hd' : due = rest.filter fun i => decide (Directive.readmit i ∉ s.line.directives.map Queued.frame) := by
        rw [hd, List.filter_cons_of_neg (by simpa using hw)]
      exact ih pre (s.setIsolation { s.isolation with owed := pre ++ rest }) hrest rfl hfull due hd'
    next hw =>
      have hd' : due = i :: rest.filter fun i => decide (Directive.readmit i ∉ s.line.directives.map Queued.frame) := by
        rw [hd, List.filter_cons_of_pos (by simpa using hw)]
      split
      next hl =>
        obtain rfl : pre = [] := hfull.resolve_right (by omega)
        obtain ⟨n, hn⟩ : ∃ n, 4 - s.line.directives.length = n + 1 := ⟨3 - s.line.directives.length, by omega⟩
        have hk : 4 - (s.line.directives ++ [Queued.fresh (Directive.readmit i)]).length = n := by simp; omega
        have hsame : (rest.filter fun j => decide (Directive.readmit j ∉ s.line.directives.map Queued.frame))
            = rest.filter fun j => decide (Directive.readmit j ∉
                (s.line.directives ++ [Queued.fresh (Directive.readmit i)]).map Queued.frame) :=
          List.filter_congr fun j hj => by simp [Queued.fresh, hri j hj]
        refine (ih [] (s.setOwed (s.line.directives ++ [Queued.fresh (.readmit i)]) rest) hrest rfl (.inl rfl) _
          hsame).trans ?_
        simp only [State.setOwed, State.setIsolation_line, State.setLine_line, State.setIsolation_isolation, hk, hn,
          hd', List.take_succ_cons, List.drop_succ_cons, List.map_cons, List.append_assoc, List.cons_append,
          List.nil_append]
        rfl
      next hl =>
        have hz : 4 - s.line.directives.length = 0 := by omega
        have howe : s.owe i = s := by
          have : insertStation i s.isolation.owed = s.isolation.owed :=
            insertStation_of_mem (ho ▸ hp) (by rw [ho]; simp)
          simp [State.owe, this, State.setIsolation]
        rw [howe, ih (pre ++ [i]) s (by simpa using hp) (by simpa using ho) (.inr (by omega)) _ rfl, hd', hz]
        simp

/-- The READMITs owed are given (R152). -/
theorem retryOwed_eq (s : State) (h : OwedLaw s) :
    s.retryOwed =
      s.setOwed
        (s.line.directives
          ++ ((readmitsDue s).take (4 - s.line.directives.length)).map fun i => Queued.fresh (.readmit i))
        ((readmitsDue s).drop (4 - s.line.directives.length)) :=
  foldl_giveReadmit s.isolation.owed [] s h.1 rfl (.inl rfl) _ rfl

end Sys2Proof.Machine
end

