-- ==== Sys2Proof/Laws/Engine.lean ====
section
/-! SUPPORT. The fault table and the containment stack: what taking, creating, detaching and retaking do to the laws of
`EngineLaw`. -/

namespace Sys2Proof.Machine

/-! ### Lists of records -/

theorem mem_mapRecord {c : Nat} {g : Record → Record} {l : List Record} {r : Record} :
    r ∈ mapRecord c g l ↔ ∃ x ∈ l, r = if x.code = c then g x else x := by
  simp only [mapRecord, List.mem_map, eq_comm]

/-- A change of a record that keeps its code, its level and its taken mark. -/
def Keeps (g : Record → Record) : Prop :=
  ∀ r, (g r).code = r.code ∧ (g r).level = r.level ∧ (g r).taken = r.taken

theorem map_code_mapRecord (c : Nat) {g : Record → Record} (hg : ∀ r, (g r).code = r.code)
    (l : List Record) : (mapRecord c g l).map Record.code = l.map Record.code := by
  rw [mapRecord, List.map_map]
  refine List.map_congr_left fun x _ => ?_
  simp only [Function.comp]; split
  · exact hg x
  · rfl

/-- The general slots in use depend on the codes alone. -/
theorem generalCount_eq (l : List Record) :
    generalCount l = ((l.map Record.code).filter isGeneral).length := by
  induction l with
  | nil => rfl
  | cons x l ih =>
    simp only [generalCount, List.map_cons, List.filter_cons] at ih ⊢
    split <;> simp [ih]

theorem TableLaw.of_codes {l l' : List Record} (h : l'.map Record.code = l.map Record.code)
    (hl : TableLaw l) : TableLaw l' := by
  simp only [TableLaw, generalCount_eq, h] at hl ⊢; exact hl

theorem mem_insertRecord {r x : Record} : ∀ {l : List Record}, x ∈ insertRecord r l ↔ x = r ∨ x ∈ l
  | [] => by simp [insertRecord]
  | y :: l => by
    simp only [insertRecord]; split
    · simp
    · simp only [List.mem_cons, mem_insertRecord (l := l)]; tauto

theorem map_code_insertRecord (r : Record) : ∀ l : List Record, (∀ x ∈ l, x.code ≠ r.code) →
    (l.map Record.code).Pairwise (· < ·) → ((insertRecord r l).map Record.code).Pairwise (· < ·)
  | [], _, _ => by simp [insertRecord]
  | y :: l, hne, hp => by
    simp only [List.map_cons, List.pairwise_cons, List.mem_map, forall_exists_index, and_imp,
      forall_apply_eq_imp_iff₂] at hp
    simp only [insertRecord]
    split
    next h =>
      simp only [List.map_cons, List.pairwise_cons, List.mem_cons, List.mem_map, forall_eq_or_imp,
        forall_exists_index, and_imp, forall_apply_eq_imp_iff₂]
      exact ⟨⟨h, fun x hx => h.trans (hp.1 x hx)⟩, hp.1, hp.2⟩
    next h =>
      have hy : y.code < r.code := by have := hne y (by simp); omega
      simp only [List.map_cons, List.pairwise_cons, List.mem_map, forall_exists_index, and_imp,
        forall_apply_eq_imp_iff₂, mem_insertRecord]
      refine ⟨?_, map_code_insertRecord r l (fun x hx => hne x (by simp [hx])) hp.2⟩
      rintro x (rfl | hx)
      · exact hy
      · exact hp.1 x hx

theorem generalCount_insertRecord (r : Record) : ∀ l : List Record,
    generalCount (insertRecord r l) = generalCount l + if isGeneral r.code then 1 else 0
  | [] => by simp only [insertRecord, generalCount, List.filter_cons]; split <;> simp
  | y :: l => by
    simp only [insertRecord]
    split
    · simp only [generalCount, List.filter_cons]; repeat' split
      all_goals simp
    · have := generalCount_insertRecord r l
      simp only [generalCount, List.filter_cons] at this ⊢
      split
      · simp only [List.length_cons, this]; omega
      · exact this

/-! ### The laws between the operations of one handling -/

/-- `EngineLaw` without its last clause: a record may wait above CL until the retaking. -/
def EngineCore (e : Engine) : Prop :=
  TableLaw e.records ∧ StackShape e.cl e.stack ∧ TopLive e.stack ∧ (liveCodes e.stack).Nodup
    ∧ (∀ f ∈ e.stack, f.spent = false → FrameOwned e.records f)
    ∧ ∀ r ∈ e.records, r.taken = true → r.code ∈ liveCodes e.stack

theorem engineLaw_iff (s : State) :
    EngineLaw s ↔ EngineCore s.engine ∧ ∀ r ∈ s.engine.records, r.level ≤ s.engine.cl := by
  simp only [EngineLaw, EngineCore]; tauto

theorem mem_liveCodes {c : Nat} {l : List StackFrame} :
    c ∈ liveCodes l ↔ ∃ f ∈ l, f.spent = false ∧ f.code = c := by
  simp [liveCodes, and_assoc]

/-- Records of one code are one record. -/
theorem TableLaw.unique {l : List Record} (h : TableLaw l) {r r' : Record} (hr : r ∈ l) (hr' : r' ∈ l)
    (hc : r.code = r'.code) : r = r' :=
  List.inj_on_of_nodup_map (h.1.imp fun h' => Nat.ne_of_lt h') hr hr' hc

theorem findRecord_some {c : Nat} {l : List Record} {r : Record} (h : findRecord c l = some r) :
    r ∈ l ∧ r.code = c :=
  ⟨List.mem_of_find?_eq_some h, by simpa using List.find?_some h⟩

theorem findRecord_none {c : Nat} {l : List Record} (h : findRecord c l = none) : ∀ x ∈ l, x.code ≠ c := by
  simpa [findRecord] using h

/-- A record whose code has no live frame is not taken. -/
theorem EngineCore.taken_false {e : Engine} (h : EngineCore e) {r : Record} (hr : r ∈ e.records)
    (hc : r.code ∉ liveCodes e.stack) : r.taken = false := by
  by_contra ht
  exact hc (h.2.2.2.2.2 r hr (by simpa using ht))

/-- A live code belongs to a taken record. -/
theorem EngineCore.not_live {e : Engine} (h : EngineCore e) {r : Record} (hr : r ∈ e.records)
    (ht : r.taken = false) : r.code ∉ liveCodes e.stack := by
  intro hc
  obtain ⟨f, hf, hs, hfc⟩ := mem_liveCodes.1 hc
  obtain ⟨x, hx, hxc, hxt, -⟩ := h.2.2.2.2.1 f hf hs
  rw [h.1.unique hx hr (hxc.trans hfc)] at hxt
  rw [ht] at hxt
  exact nomatch hxt

/-! ### Changes that keep code, level and taken mark -/

theorem EngineCore.mapRecord {e : Engine} (h : EngineCore e) (c : Nat) {g : Record → Record} (hg : Keeps g) :
    EngineCore { e with records := mapRecord c g e.records } := by
  obtain ⟨h1, h2, h3, h4, h5, h6⟩ := h
  refine ⟨h1.of_codes (map_code_mapRecord c (fun r => (hg r).1) _), h2, h3, h4, fun f hf hs => ?_, fun r hr ht => ?_⟩
  · obtain ⟨x, hx, hc, ht, hl⟩ := h5 f hf hs
    refine ⟨_, mem_mapRecord.2 ⟨x, hx, rfl⟩, ?_⟩
    split <;> simp [(hg x).1, (hg x).2.1, (hg x).2.2, hc, ht, hl]
  · obtain ⟨x, hx, rfl⟩ := mem_mapRecord.1 hr
    have : (if x.code = c then g x else x).code = x.code ∧ (if x.code = c then g x else x).taken = x.taken := by
      split <;> simp [(hg x).1, (hg x).2.2]
    rw [this.1]; exact h6 x hx (this.2 ▸ ht)

theorem EngineLaw.updateRecord {s : State} (h : EngineLaw s) (c : Nat) {g : Record → Record} (hg : Keeps g) :
    EngineLaw (s.updateRecord c g) := by
  rw [engineLaw_iff] at h ⊢
  refine ⟨h.1.mapRecord c hg, fun r hr => ?_⟩
  obtain ⟨x, hx, rfl⟩ := mem_mapRecord.1 hr
  have := h.2 x hx
  split <;> simp_all [(hg x).2.1]

/-! ### Taking -/

theorem EngineCore.take {e : Engine} (h : EngineCore e) {r : Record} (hr : r ∈ e.records)
    (ht : r.taken = false) (hl : e.cl < r.level) :
    EngineCore { e with
      records := Sys2Proof.Machine.mapRecord r.code (fun r => { r with taken := true }) e.records
      stack := { saved := e.cl, code := r.code, level := r.level, spent := false } :: e.stack
      cl := r.level } := by
  have hn := h.not_live hr ht
  have hu : ∀ x ∈ e.records, x.code = r.code → x = r := fun x hx hc => h.1.unique hx hr hc
  obtain ⟨h1, h2, h3, h4, h5, h6⟩ := h
  refine ⟨h1.of_codes (map_code_mapRecord r.code (g := fun x => { x with taken := true }) (fun _ => rfl) _), ⟨rfl, hl, h2⟩, ?_, ?_, fun f hf hs => ?_,
    fun x hx hxt => ?_⟩
  · simp [TopLive]
  · simpa [liveCodes] using ⟨by simpa [liveCodes] using hn, by simpa [liveCodes] using h4⟩
  · rcases List.mem_cons.1 hf with rfl | hf
    · exact ⟨_, mem_mapRecord.2 ⟨r, hr, rfl⟩, by simp⟩
    · obtain ⟨x, hx, hc, hxt, hxl⟩ := h5 f hf hs
      refine ⟨_, mem_mapRecord.2 ⟨x, hx, rfl⟩, ?_⟩
      split <;> simp [hc, hxt, hxl]
  · obtain ⟨y, hy, rfl⟩ := mem_mapRecord.1 hx
    rw [mem_liveCodes]
    by_cases hc : y.code = r.code
    · rw [if_pos hc]; exact ⟨_, List.mem_cons_self, rfl, hc.symm⟩
    · rw [if_neg hc] at hxt ⊢
      obtain ⟨f, hf, hs, hfc⟩ := mem_liveCodes.1 (h6 y hy hxt)
      exact ⟨f, List.mem_cons_of_mem _ hf, hs, hfc⟩

/-- The state of the engine after a record present is taken. -/
theorem take_engine (s : State) (c : Nat) (l : Level) :
    (s.take c l).engine =
      { s.engine with
        records := mapRecord c (fun r => { r with taken := true }) s.engine.records
        stack := { saved := s.engine.cl, code := c, level := l, spent := false } :: s.engine.stack
        cl := l } := by
  simp only [State.take, State.alertFor]; split <;> rfl

theorem mem_take_records {s : State} {c : Nat} {l : Level} {x : Record}
    (hx : x ∈ (s.take c l).engine.records) : ∃ y ∈ s.engine.records, x.level = y.level := by
  rw [take_engine] at hx
  obtain ⟨y, hy, rfl⟩ := mem_mapRecord.1 hx
  exact ⟨y, hy, by split <;> rfl⟩

/-! ### Retaking -/

theorem waiting_spec (cl : Level) (l : List Record) :
    match waitingRecord cl l with
    | none => ∀ r ∈ l, r.taken = false → r.level ≤ cl
    | some r => r ∈ l ∧ r.taken = false ∧ cl < r.level ∧ ∀ x ∈ l, x.taken = false → x.level ≤ r.level := by
  have key : ∀ (m : List Record) (b : Option Record),
      match m.foldl betterWaiting b with
      | none => m = [] ∧ b = none
      | some r => (r ∈ m ∨ b = some r) ∧ (∀ x ∈ m, x.level ≤ r.level) ∧ ∀ x ∈ b, x.level ≤ r.level := by
    intro m
    induction m with
    | nil => rintro (_ | b) <;> simp
    | cons a m ih =>
      intro b
      have := ih (betterWaiting b a)
      rw [List.foldl_cons]
      revert this
      cases hf : m.foldl betterWaiting (betterWaiting b a) with
      | none => cases b <;> simp only [betterWaiting] <;> (try split) <;> simp
      | some r =>
        cases b with
        | none => simp [betterWaiting]; rintro (h | rfl) h1 h2 <;> simp_all
        | some b =>
          simp only [betterWaiting]
          split
          next hlt =>
            rintro ⟨h0, h1, h2⟩
            have h3 : a.level ≤ r.level := h2 a rfl
            refine ⟨?_, ?_, ?_⟩
            · rcases h0 with h0 | h0
              · exact .inl (List.mem_cons_of_mem _ h0)
              · injection h0 with h0; exact .inl (h0 ▸ List.mem_cons_self)
            · rintro x hx; rcases List.mem_cons.1 hx with rfl | hx
              · exact h3
              · exact h1 x hx
            · rintro x hx; simp only [Option.mem_def, Option.some.injEq] at hx; subst hx
              exact (le_of_lt hlt).trans h3
          next hle =>
            rintro ⟨h0, h1, h2⟩
            have h3 : b.level ≤ r.level := h2 b rfl
            refine ⟨?_, ?_, ?_⟩
            · rcases h0 with h0 | h0
              · exact .inl (List.mem_cons_of_mem _ h0)
              · exact .inr h0
            · rintro x hx; rcases List.mem_cons.1 hx with rfl | hx
              · exact (not_lt.1 hle).trans h3
              · exact h1 x hx
            · rintro x hx; simp only [Option.mem_def, Option.some.injEq] at hx; subst hx; exact h3
  have := key (l.filter fun r => !r.taken && decide (cl < r.level)) none
  unfold waitingRecord
  revert this
  cases (l.filter fun r => !r.taken && decide (cl < r.level)).foldl betterWaiting none with
  | none =>
    rintro ⟨h, -⟩ r hr ht
    have := List.filter_eq_nil_iff.1 h r hr
    simpa [ht] using this
  | some r =>
    rintro ⟨h0, h1, -⟩
    have h0 : r ∈ l.filter fun r => !r.taken && decide (cl < r.level) := by simpa using h0
    have h0' := List.mem_filter.1 h0
    have h0'' : r.taken = false ∧ cl < r.level := by simpa using h0'.2
    refine ⟨h0'.1, h0''.1, h0''.2, fun x hx ht => ?_⟩
    by_cases hlt : cl < x.level
    · exact h1 x (List.mem_filter.2 ⟨hx, by simp [ht, hlt]⟩)
    · exact (not_lt.1 hlt).trans (le_of_lt h0''.2)

/-- Every frame's level is at most CL. -/
theorem StackShape.le {cl : Level} : ∀ {l : List StackFrame}, StackShape cl l → ∀ f ∈ l, f.level ≤ cl
  | [], _ => by simp
  | f :: rest, h => by
    rintro g hg
    rcases List.mem_cons.1 hg with rfl | hg
    · exact h.1.le
    · exact (StackShape.le h.2.2 g hg).trans (h.1 ▸ le_of_lt h.2.1)

/-- A taken record's level is at most CL. -/
theorem EngineCore.taken_le {e : Engine} (h : EngineCore e) {r : Record} (hr : r ∈ e.records)
    (ht : r.taken = true) : r.level ≤ e.cl := by
  obtain ⟨f, hf, hs, hc⟩ := mem_liveCodes.1 (h.2.2.2.2.2 r hr ht)
  obtain ⟨x, hx, hxc, -, hl⟩ := h.2.2.2.2.1 f hf hs
  rw [h.1.unique hr hx (hc.symm.trans hxc.symm), hl]
  exact StackShape.le h.2.1 f hf

/-- After a retaking the laws hold (R92, R99). -/
theorem EngineLaw.of_retake {s : State} (h : EngineCore s.engine) : EngineLaw s.retake := by
  have hw := waiting_spec s.engine.cl s.engine.records
  rw [engineLaw_iff]
  unfold State.retake
  revert hw
  cases waitingRecord s.engine.cl s.engine.records with
  | none =>
    intro hw
    refine ⟨h, fun r hr => ?_⟩
    cases ht : r.taken with
    | false => exact hw r hr ht
    | true => exact h.taken_le hr ht
  | some r =>
    rintro ⟨hr, ht, hl, hmax⟩
    refine ⟨by rw [take_engine]; exact h.take hr ht hl, fun x hx => ?_⟩
    obtain ⟨y, hy, hxl⟩ := mem_take_records hx
    rw [hxl, take_engine]
    cases hyt : y.taken with
    | false => exact hmax y hy hyt
    | true => exact (h.taken_le hy hyt).trans (le_of_lt hl)

/-! ### Creating -/

theorem EngineCore.insertRecord {e : Engine} (h : EngineCore e) {r : Record} (ha : ∀ x ∈ e.records, x.code ≠ r.code)
    (ht : r.taken = false) (hfree : isGeneral r.code = true → generalCount e.records < Config.generalSlots) :
    EngineCore { e with records := insertRecord r e.records } := by
  obtain ⟨h1, h2, h3, h4, h5, h6⟩ := h
  refine ⟨⟨map_code_insertRecord r _ ha h1.1, ?_⟩, h2, h3, h4, fun f hf hs => ?_, fun x hx hxt => ?_⟩
  · rw [generalCount_insertRecord]
    have := h1.2
    split
    next hg => exact hfree hg
    next => simpa using this
  · obtain ⟨x, hx, hc⟩ := h5 f hf hs
    exact ⟨x, mem_insertRecord.2 (.inr hx), hc⟩
  · rcases mem_insertRecord.1 hx with rfl | hx
    · rw [ht] at hxt; exact nomatch hxt
    · exact h6 x hx hxt

/-- What a creation does to the laws (R76, R93). -/
theorem EngineCore.createRecord {s : State} (h : EngineCore s.engine) {r : Record}
    (ha : ∀ x ∈ s.engine.records, x.code ≠ r.code) (ht : r.taken = false)
    (hfree : isGeneral r.code = true → generalCount s.engine.records < Config.generalSlots) :
    EngineCore (s.createRecord r).engine := by
  have hi := h.insertRecord ha ht hfree
  simp only [State.createRecord]
  split
  next hl => rw [take_engine]; exact hi.take (mem_insertRecord.2 (.inl rfl)) ht hl
  next => exact hi

theorem EngineLaw.createRecord {s : State} (h : EngineLaw s) {r : Record}
    (ha : ∀ x ∈ s.engine.records, x.code ≠ r.code) (ht : r.taken = false)
    (hfree : isGeneral r.code = true → generalCount s.engine.records < Config.generalSlots) :
    EngineLaw (s.createRecord r) := by
  rw [engineLaw_iff] at h ⊢
  refine ⟨h.1.createRecord ha ht hfree, fun x hx => ?_⟩
  have hle : ∀ y ∈ insertRecord r s.engine.records, y.level ≤ max s.engine.cl r.level := fun y hy => by
    rcases mem_insertRecord.1 hy with rfl | hy
    · exact le_max_right _ _
    · exact (h.2 y hy).trans (le_max_left _ _)
  by_cases hl : s.engine.cl < r.level
  · have hc : s.createRecord r = (s.setRecords (insertRecord r s.engine.records)).take r.code r.level := if_pos hl
    rw [hc] at hx ⊢
    obtain ⟨y, hy, hxl⟩ := mem_take_records hx
    rw [take_engine, hxl]
    simpa [max_eq_right (le_of_lt hl)] using hle y hy
  · have hc : s.createRecord r = s.setRecords (insertRecord r s.engine.records) := if_neg hl
    rw [hc] at hx ⊢
    simpa [max_eq_left (not_lt.1 hl)] using hle x hx

/-! ### Detaching -/

theorem mem_eraseRecord {c : Nat} {l : List Record} {r : Record} :
    r ∈ eraseRecord c l ↔ r ∈ l ∧ r.code ≠ c := by simp [eraseRecord]

theorem TableLaw.erase {l : List Record} (h : TableLaw l) (c : Nat) : TableLaw (eraseRecord c l) := by
  refine ⟨h.1.sublist (List.Sublist.map _ List.filter_sublist), le_trans ?_ h.2⟩
  unfold generalCount eraseRecord
  exact ((List.filter_sublist (l := l)).filter _).length_le

/-- Popping spent frames leaves a stack whose top is live (R97). -/
theorem popSpent_spec : ∀ {l : List StackFrame} {cl : Level}, StackShape cl l →
    StackShape (popSpent cl l).1 (popSpent cl l).2 ∧ TopLive (popSpent cl l).2
      ∧ liveCodes (popSpent cl l).2 = liveCodes l ∧ ∀ f ∈ (popSpent cl l).2, f ∈ l
  | [], cl, h => ⟨h, by simp [popSpent, TopLive], rfl, by simp [popSpent]⟩
  | f :: rest, cl, h => by
    unfold popSpent
    split
    next hs =>
      obtain ⟨h1, h2, h3, h4⟩ := popSpent_spec h.2.2
      exact ⟨h1, h2, by rw [h3]; simp [liveCodes, hs], fun g hg => List.mem_cons_of_mem _ (h4 g hg)⟩
    next hs => exact ⟨h, by simpa [TopLive] using hs, rfl, fun g hg => hg⟩

theorem markSpent_shape (c : Nat) : ∀ {l : List StackFrame} {cl : Level}, StackShape cl l →
    StackShape cl (markSpent c l)
  | [], _, h => h
  | f :: rest, cl, h => by
    have ih := markSpent_shape c h.2.2
    simp only [markSpent, List.map_cons, StackShape] at ih ⊢
    split <;> exact ⟨h.1, h.2.1, ih⟩

theorem mem_markSpent {c : Nat} {l : List StackFrame} {f : StackFrame} (h : f ∈ markSpent c l)
    (hs : f.spent = false) : f ∈ l ∧ f.code ≠ c := by
  simp only [markSpent, List.mem_map] at h
  obtain ⟨g, hg, rfl⟩ := h
  split at hs
  · exact nomatch hs
  next hc => rw [if_neg hc]; simp only [hs, Bool.not_false, Bool.and_true, decide_eq_true_eq] at hc; exact ⟨hg, hc⟩

theorem liveCodes_cons (f : StackFrame) (l : List StackFrame) :
    liveCodes (f :: l) = if f.spent then liveCodes l else f.code :: liveCodes l := by
  cases hs : f.spent <;> simp [liveCodes, hs]

theorem liveCodes_markSpent (c : Nat) (l : List StackFrame) :
    liveCodes (markSpent c l) = (liveCodes l).filter fun x => x ≠ c := by
  induction l with
  | nil => rfl
  | cons f l ih =>
    have hm : markSpent c (f :: l)
        = (if f.code = c && !f.spent then { f with spent := true } else f) :: markSpent c l := rfl
    rw [hm, liveCodes_cons, liveCodes_cons, ih]
    cases hs : f.spent <;> by_cases hc : f.code = c <;> simp [hs, hc]

/-- The live codes after the taken record of a code is removed are the others (R97, R98). -/
theorem unwind_spec {c : Nat} {l : List StackFrame} {cl : Level} (h : StackShape cl l) (ht : TopLive l)
    (hn : (liveCodes l).Nodup) :
    StackShape (unwind c cl l).1 (unwind c cl l).2 ∧ TopLive (unwind c cl l).2
      ∧ liveCodes (unwind c cl l).2 = (liveCodes l).filter (fun x => x ≠ c)
      ∧ ∀ f ∈ (unwind c cl l).2, f.spent = false → f ∈ l ∧ f.code ≠ c := by
  cases l with
  | nil => exact ⟨h, by simp [unwind, TopLive], rfl, by simp [unwind]⟩
  | cons f rest =>
    simp only [unwind]
    have hfs : f.spent = false := ht f rfl
    split
    next hc =>
      have hfc : f.code = c := by simpa [hfs] using hc
      obtain ⟨h1, h2, h3, h4⟩ := popSpent_spec h.2.2
      have hl : liveCodes (f :: rest) = c :: liveCodes rest := by simp [liveCodes, hfs, hfc]
      have hnotin : c ∉ liveCodes rest := by rw [hl] at hn; exact (List.nodup_cons.1 hn).1
      refine ⟨h1, h2, ?_, fun g hg hs => ?_⟩
      · rw [h3, hl, List.filter_cons]
        simp only [ne_eq, not_true_eq_false, decide_false, Bool.false_eq_true, if_false]
        exact (List.filter_eq_self.2 fun x hx => by
          simpa using fun hxc : x = c => hnotin (hxc ▸ hx)).symm
      · have hg' := h4 g hg
        exact ⟨List.mem_cons_of_mem _ hg', fun hgc => hnotin (mem_liveCodes.2 ⟨g, hg', hs, hgc⟩)⟩
    next hc =>
      have hfc : f.code ≠ c := by simpa [hfs] using hc
      refine ⟨markSpent_shape c h, ?_, liveCodes_markSpent c _, fun g hg hs => mem_markSpent hg hs⟩
      simp [TopLive, markSpent, hfc, hfs]

/-- What the departure of a record does to the laws, the retaking still to come (R82, R97, R98). -/
theorem EngineCore.detach {s : State} (h : EngineCore s.engine) (c : Nat) :
    EngineCore (s.detach c).engine ∧ ∀ x ∈ (s.detach c).engine.records, x ∈ s.engine.records ∧ x.code ≠ c := by
  unfold State.detach
  split
  next hr => exact ⟨h, fun x hx => ⟨hx, findRecord_none hr x hx⟩⟩
  next r hr =>
    obtain ⟨hrm, hrc⟩ := findRecord_some hr
    refine ⟨?_, fun x hx => mem_eraseRecord.1 hx⟩
    have hu : ∀ x ∈ s.engine.records, x.code = c → x = r := fun x hx hxc => h.1.unique hx hrm (hxc.trans hrc.symm)
    have hnl := fun ht => h.not_live hrm ht
    obtain ⟨h1, h2, h3, h4, h5, h6⟩ := h
    cases ht : r.taken with
    | true =>
      obtain ⟨u1, u2, u3, u4⟩ := unwind_spec (c := c) h2 h3 h4
      refine ⟨h1.erase c, u1, u2, ?_, fun f hf hs => ?_, fun x hx hxt => ?_⟩
      · simp only [State.setEngine_engine, if_true, u3]; exact h4.filter _
      · obtain ⟨hf', hfc⟩ := u4 f hf hs
        obtain ⟨x, hx, hxc, hx'⟩ := h5 f hf' hs
        exact ⟨x, mem_eraseRecord.2 ⟨hx, hxc ▸ hfc⟩, hxc, hx'⟩
      · obtain ⟨hx, hxc⟩ := mem_eraseRecord.1 hx
        simp only [State.setEngine_engine, if_true, u3]
        exact List.mem_filter.2 ⟨h6 x hx hxt, by simpa using hxc⟩
    | false =>
      have hcl : c ∉ liveCodes s.engine.stack := hrc ▸ hnl ht
      refine ⟨h1.erase c, h2, h3, h4, fun f hf hs => ?_, fun x hx hxt => ?_⟩
      · obtain ⟨x, hx, hxc, hx'⟩ := h5 f hf hs
        exact ⟨x, mem_eraseRecord.2 ⟨hx, fun hxc' => hcl (mem_liveCodes.2 ⟨f, hf, hs, hxc ▸ hxc'⟩)⟩, hxc, hx'⟩
      · exact h6 x (mem_eraseRecord.1 hx).1 hxt

/-- A removal keeps the laws (R82, R97 to R99). -/
theorem EngineLaw.removeRecord {s : State} (h : EngineLaw s) (c : Nat) : EngineLaw (s.removeRecord c) :=
  .of_retake (((engineLaw_iff s).1 h).1.detach c).1

end Sys2Proof.Machine
end

