-- ==== Sys2Proof/Laws/EngineOps.lean ====
section
/-! SUPPORT. Raising, presenting, ending, folding and replacing keep the laws of the fault table and the stack. -/

namespace Sys2Proof.Machine

/-! ### Changes of one record -/

theorem conditionEnded_keeps : Keeps conditionEnded := fun r => by
  unfold conditionEnded; split <;> exact ⟨rfl, rfl, rfl⟩

theorem reraised_keeps (a : Raise) : Keeps (reraised a) := fun r => by
  simp only [reraised, reraiseFields]
  split <;> exact ⟨rfl, rfl, rfl⟩

theorem foldedInto_keeps (a : Raise) : Keeps (foldedInto a) := fun _ => ⟨rfl, rfl, rfl⟩

/-! ### Blocks that the engine does not read -/

theorem EngineLaw.of_engine {s t : State} (h : EngineLaw s) (he : t.engine = s.engine) : EngineLaw t := by
  rw [engineLaw_iff] at h ⊢; rw [he]; exact h

@[simp] theorem State.abandonPark_engine (s : State) : s.abandonPark.engine = s.engine := by
  unfold abandonPark; split <;> rfl

@[simp] theorem State.abandonAt_engine (s : State) (l : Level) : (s.abandonAt l).engine = s.engine := by
  unfold abandonAt; split <;> simp

@[simp] theorem State.abandonAt_record (s : State) (l : Level) (c : Nat) :
    (s.abandonAt l).record c = s.record c := by simp [record]

/-! ### Raising -/

/-- A free general slot where one is needed (R72, R76). -/
theorem free_of_not_full {s : State} {c : Nat} (h : ¬(isGeneral c && s.generalFull) = true)
    (hg : isGeneral c = true) : generalCount s.engine.records < Config.generalSlots := by
  simpa [hg, State.generalFull] using h

/-- A fold keeps the laws, and it restores them where a record waits above CL (R89, R101). -/
theorem EngineCore.fold {s : State} (h : EngineCore s.engine) (a : Raise) : EngineCore (s.fold a).engine := by
  unfold State.fold
  split
  next hr => exact h.createRecord (findRecord_none hr) rfl fun hg => nomatch hg
  next r hr =>
    split
    · obtain ⟨hd, hne⟩ := h.detach 4
      have hc : (foldedInto a r).code = 4 := (findRecord_some hr).2
      refine ((engineLaw_iff _).1 (.of_retake (hd.createRecord ?_ rfl ?_))).1
      · intro x hx hxc; exact (hne x hx).2 (hxc.trans hc)
      · intro hg; rw [show isGeneral _ = isGeneral (foldedInto a r).code from rfl, hc] at hg; exact nomatch hg
    · exact h.mapRecord 4 (foldedInto_keeps a)

theorem EngineLaw.fold {s : State} (h : EngineLaw s) (a : Raise) : EngineLaw (s.fold a) := by
  have hcore := ((engineLaw_iff s).1 h).1
  unfold State.fold
  split
  next hr => exact h.createRecord (findRecord_none hr) rfl fun hg => nomatch hg
  next r hr =>
    split
    · obtain ⟨hd, hne⟩ := hcore.detach 4
      have hc : (foldedInto a r).code = 4 := (findRecord_some hr).2
      refine .of_retake (hd.createRecord ?_ rfl ?_)
      · intro x hx hxc; exact (hne x hx).2 (hxc.trans hc)
      · intro hg; rw [show isGeneral _ = isGeneral (foldedInto a r).code from rfl, hc] at hg; exact nomatch hg
    · exact h.updateRecord 4 (foldedInto_keeps a)

theorem EngineCore.raiseAbsent {s : State} (h : EngineCore s.engine) (a : Raise)
    (ha : ∀ x ∈ s.engine.records, x.code ≠ a.code) : EngineCore (s.raiseAbsent a).engine := by
  unfold State.raiseAbsent
  split
  · exact h.fold a
  next hf => exact h.createRecord ha rfl (free_of_not_full hf)

theorem EngineLaw.raiseAbsent {s : State} (h : EngineLaw s) (a : Raise)
    (ha : ∀ x ∈ s.engine.records, x.code ≠ a.code) : EngineLaw (s.raiseAbsent a) := by
  unfold State.raiseAbsent
  split
  · exact h.fold a
  next hf => exact h.createRecord ha rfl (free_of_not_full hf)

theorem EngineLaw.abandonAt {s : State} (h : EngineLaw s) (l : Level) : EngineLaw (s.abandonAt l) :=
  h.of_engine (s.abandonAt_engine l)

theorem EngineLaw.raise {s : State} (h : EngineLaw s) (a : Raise) : EngineLaw (s.raise a) := by
  have h' := h.abandonAt a.level
  simp only [State.raise]
  split
  · exact h'.updateRecord _ (reraised_keeps a)
  next hr => exact h'.raiseAbsent a (findRecord_none hr)

theorem EngineLaw.present {s : State} (h : EngineLaw s) (a : Raise) : EngineLaw (s.present a) := by
  unfold State.present
  split
  · exact h
  · split
    · exact h
    · exact h.raise a

theorem EngineLaw.replace {s : State} (h : EngineLaw s) (a : Raise) : EngineLaw (s.replace a) := by
  have h' := ((engineLaw_iff _).1 (h.abandonAt a.level)).1
  obtain ⟨hd, hne⟩ := h'.detach a.code
  exact .of_retake (hd.raiseAbsent a fun x hx => (hne x hx).2)

theorem EngineLaw.conditionGone {s : State} (h : EngineLaw s) (c : Nat) : EngineLaw (s.conditionGone c) :=
  h.updateRecord c conditionEnded_keeps

theorem EngineLaw.raiseOrPresent {s : State} (h : EngineLaw s) (b : Bool) (a : Raise) :
    EngineLaw (s.raiseOrPresent b a) := by
  unfold State.raiseOrPresent; split
  · exact h.raise a
  · exact h.present a

theorem EngineLaw.conditionNow {s : State} (h : EngineLaw s) (b n : Bool) (a : Raise) :
    EngineLaw (s.conditionNow b n a) := by
  unfold State.conditionNow
  split
  · exact h.raise a
  · split
    · exact h.conditionGone _
    · exact h

theorem EngineLaw.checkCondition {s : State} (h : EngineLaw s) (b n : Bool) (a : Raise) :
    EngineLaw (s.checkCondition b n a) := by
  unfold State.checkCondition
  split
  · exact h.raiseOrPresent _ a
  · split
    · exact h.conditionGone _
    · exact h

/-- The counting of periods and the contactor sequence leave table, stack and CL alone. -/
theorem EngineLaw.setContactor {s : State} (h : EngineLaw s) (c : Contactor) (n : Nat) :
    EngineLaw (s.setContactor c n) := h

/-! ### What the laws give -/

/-- CL is the highest level among the records (R92). -/
theorem foldl_max_le (l : List Record) (m k : Level) :
    l.foldl (fun m r => max m r.level) m ≤ k ↔ m ≤ k ∧ ∀ r ∈ l, r.level ≤ k := by
  induction l generalizing m with
  | nil => simp
  | cons r l ih => simp [ih, and_assoc]

theorem highestLevel_le {l : List Record} {k : Level} : highestLevel l ≤ k ↔ ∀ r ∈ l, r.level ≤ k := by
  simp [highestLevel, foldl_max_le]

/-- The frames of a stack are no more than its CL, so at most seven (R96). -/
theorem StackShape.length_le : ∀ {l : List StackFrame} {cl : Level}, StackShape cl l → l.length ≤ cl.val
  | [], _, _ => Nat.zero_le _
  | f :: rest, cl, h => by
    have := StackShape.length_le h.2.2
    have h2 : f.saved.val < f.level.val := h.2.1
    rw [h.1] at h2
    simp only [List.length_cons]; omega

end Sys2Proof.Machine
end

