-- ==== Sys2Proof/Laws/Formats.lean ====
section
/-! SUPPORT. The packing of payloads: `pack` puts each field where `payloadOf` of the statements puts it, for fields that
fit the 48 bits (R171, R172); and a set of stations as its marks. -/

namespace Sys2Proof.Machine

theorem packWidth_from (fields : List (Nat × Nat)) (acc : Nat) :
    fields.foldl (fun acc f => acc + f.1) acc = acc + packWidth fields := by
  induction fields generalizing acc with
  | nil => rfl
  | cons f rest ih => simp only [packWidth, List.foldl_cons] at *; rw [ih, ih (0 + f.1)]; omega

@[simp] theorem packWidth_nil : packWidth [] = 0 := rfl

@[simp] theorem packWidth_cons (f : Nat × Nat) (rest : List (Nat × Nat)) :
    packWidth (f :: rest) = f.1 + packWidth rest := by
  simp only [packWidth, List.foldl_cons, Nat.zero_add]; exact packWidth_from rest f.1

@[simp] theorem packWidth_append (a b : List (Nat × Nat)) : packWidth (a ++ b) = packWidth a + packWidth b := by
  induction a with
  | nil => simp
  | cons f rest ih => simp [ih, Nat.add_assoc]

/-- A number in front of the fields stands above all their bits. -/
theorem packNat_from (fields : List (Nat × Nat)) (acc : Nat) :
    fields.foldl (fun acc f => acc * 2 ^ f.1 + f.2 % 2 ^ f.1) acc
      = acc * 2 ^ packWidth fields + packNat fields := by
  induction fields generalizing acc with
  | nil => simp [packNat]
  | cons f rest ih =>
    simp only [packNat, List.foldl_cons, packWidth_cons] at *
    rw [ih, ih (0 * 2 ^ f.1 + f.2 % 2 ^ f.1)]
    simp [Nat.pow_add, Nat.add_mul, Nat.mul_assoc, Nat.add_assoc]

@[simp] theorem packNat_nil : packNat [] = 0 := rfl

@[simp] theorem packNat_cons (f : Nat × Nat) (rest : List (Nat × Nat)) :
    packNat (f :: rest) = f.2 % 2 ^ f.1 * 2 ^ packWidth rest + packNat rest := by
  simp only [packNat, List.foldl_cons, Nat.zero_mul, Nat.zero_add]; exact packNat_from rest _

/-- Fields that fit `n` bits are placed from the most significant of them. -/
theorem placed_of_fits (n : Nat) (fields : List (Nat × Nat)) (fits : packWidth fields ≤ n) :
    placed n fields = packNat fields * 2 ^ (n - packWidth fields) := by
  induction fields generalizing n with
  | nil => simp [placed]
  | cons f rest ih =>
    obtain ⟨w, x⟩ := f
    simp only [packWidth_cons, packNat_cons, placed] at *
    have below : n - w - packWidth rest = n - (w + packWidth rest) := by omega
    have above : packWidth rest + (n - (w + packWidth rest)) = n - w := by omega
    rw [ih (n - w) (by omega), Nat.add_mul, Nat.mul_assoc, ← Nat.pow_add, below, above]

/-- What `pack` gives of fields that fit a payload is what the statements call their payload. -/
theorem pack_of_fits (fields : List (Nat × Nat)) (fits : packWidth fields ≤ 48) :
    pack fields = payloadOf fields := by
  rw [pack, payloadOf, placed_of_fits 48 fields fits]

/-- Six marks, those of stations 5 down to 0, as one number. -/
theorem packNat_marks_or :
    ∀ (b5 b4 b3 b2 b1 b0 : Bool) (i : Station),
      packNat [bitOf (b5 || decide (5 = i)), bitOf (b4 || decide (4 = i)), bitOf (b3 || decide (3 = i)),
          bitOf (b2 || decide (2 = i)), bitOf (b1 || decide (1 = i)), bitOf (b0 || decide (0 = i))]
        = packNat [bitOf b5, bitOf b4, bitOf b3, bitOf b2, bitOf b1, bitOf b0] ||| 2 ^ i.val := by
  decide +kernel

/-- A set of stations holds bit n for station n. -/
theorem stationSet_marks (l : List Station) :
    stationSet l = packNat ([5, 4, 3, 2, 1, 0].map fun i : Station => bitOf (decide (i ∈ l))) := by
  induction l using List.reverseRecOn with
  | nil => rfl
  | append_singleton l i ih =>
    simp only [stationSet, List.foldl_append, List.foldl_cons, List.foldl_nil, List.mem_append, List.mem_singleton,
      Bool.decide_or, List.map_cons, List.map_nil] at ih ⊢
    rw [packNat_marks_or, ih]

end Sys2Proof.Machine
end

