-- ==== Sys2Proof/Tests/Slice0.lean ====
section
/-! SUPPORT. Tests on small states: the well-formedness checks, keys and bytes written out from 12 (Formats), figures
of the spec's worked cases, and for each statement with hypotheses a state and operands that meet them. -/

namespace Sys2Proof.Tests

set_option Elab.async false

open Sys2Proof Sys2Proof.Machine

/-! ### States -/

/-- Station 1, a DRIVE, right after a reset but in station state `st`. -/
def station (st : StationState) : State :=
  ((State.afterReset { number := 1, role := .drive } { powerOn := true, pin := false, restart := false }
    0#4 []).setStation st).drivePins

/-- A record of `code` and `level` in a given life. -/
def recordOf (code : Nat) (level : Level) (life : Life) (taken : Bool) : Record :=
  { code := code, level := level, fm := 128, fr := 256, life := life, taken := taken, count := 1,
    firstSeen := 0, unread := true, measured := none, detect := none, folded := none, param := none }

/-- One taken record of `code` and `level`, its frame on the stack. -/
def holding (st : StationState) (code : Nat) (level : Level) (life : Life) : State :=
  ((station st).setEngine
    { Engine.initial with
      records := [recordOf code level life true]
      stack := [{ saved := 0, code := code, level := level, spent := false }]
      cl := level }).drivePins

/-- The twelve general slots occupied by reports of level 1. -/
def full (st : StationState) : State :=
  ((station st).setEngine
    { Engine.initial with
      records := [8, 9, 10, 11, 12, 13, 14, 15, 16, 17, 18, 19].map fun c =>
        recordOf c 1 .holds (decide (c = 8))
      stack := [{ saved := 0, code := 8, level := 1, spent := false }]
      cl := 1 }).drivePins

/-- Entry `i` replaced. -/
def withPeer (s : State) (i : Station) (e : PeerEntry) : State := s.setPeer i e

/-- An entry in a given state with nothing else heard. -/
def entry (st : EntryState) : PeerEntry := { PeerEntry.initial with state := st }

/-- A beacon of station 2, a DRIVE with nothing valid. -/
def beaconOf2 (sequence : Fin 16) (flags : Flags) : Beacon :=
  { sender := 2, period := .ms10, sequence := sequence, flags := flags, ownLevel := 0, posture := .normal,
    cl := 0, claims := [], published := .drive { valid := false, value := 0 } { valid := false, value := 0 } }

/-- Peer 2 in probation with so many clean beacons, alone in the rejoin queue. -/
def onProbation (clean : Nat) : State :=
  (withPeer (station .run) 2 (entry .probation)).setIsolation
    { Isolation.initial with queue := [2], probation := some { station := 2, origin := .lost, clean := clean } }

/-- The frame at the head of queue `k` is on the line, so many failures counted before. -/
def attempting (st : StationState) (k : TxQueue) (attempt failures : Nat) (parking : Bool) : State :=
  (station st).setLine
    { LineInterface.initial with
      txFailures := failures
      alerts := [{ frame := { sender := 1, ownLevel := 4, claim := { code := 8, level := 4 } },
                   attempt := attempt, committed := true }]
      directives := [{ frame := .cease 2 .score, attempt := attempt, committed := true }]
      beacon := some
        { frame := { beacon := beaconOf2 0 { Flags.clear with parking := parking }, numbered := true },
          attempt := attempt, committed := true }
      wake := some { frame := 1, attempt := attempt, committed := true }
      attempt := some { queue := k, wasCommitted := true, ifLost := LineInterface.initial.toHeldFrames } }

/-- A parking beacon waits behind the beacon whose attempt is on the line (R21). -/
def parkWaiting (st : StationState) (attempt failures : Nat) : State :=
  let s := attempting st .beacon attempt failures false
  s.setLine { s.line with parkingWaiting := some (beaconOf2 0 { Flags.clear with parking := true }) }

/-- Station 1 at speed 180 hears 250 from station 2 and 182 from station 4, the speed check disputed. -/
def disputing : State :=
  let s := (station .run).setSelector
    { (station .run).selector with
      own := [⟨.driveSpeed, 180, true, 0⟩, ⟨.linkVoltage, 0, false, 0⟩], speedDisputed := true }
  let s := withPeer (withPeer s 2 { entry .live with heard := true, published := some (.drive ⟨true, 250⟩ ⟨false, 0⟩) })
    4 { entry .live with heard := true, published := some (.drive ⟨true, 182⟩ ⟨false, 0⟩) }
  s.setSelector { s.selector with served := s.resolved }

/-- Flags of a rejoining peer (R16). -/
def rejoinFlags : Flags := { Flags.clear with rejoin := true, isolated := true }

/-- What the own expiry of `s` leaves meets `p`. -/
def expiryMeets (s : State) (p : State → Bool) : Bool :=
  match exec (.ownBeaconExpiry []) s with
  | .next t => p t
  | _ => false

/-- What command `c` leaves of `s` meets `p`. -/
def nextMeets (c : Instr) (s : State) (p : State → Bool) : Bool :=
  match exec c s with
  | .next t => p t
  | _ => false

/-- Station 1 in RUN with no speed served, so that SPEED-UNKNOWN holds. -/
def riding : State :=
  (station .run).setSelector { (station .run).selector with speedUnknown := true }

/-! ### Well-formedness: an ill-formed term for each check -/

theorem test_wf_clocks : Instr.wf (.incompleteTransaction 64) = false
    ∧ Instr.wf (.incompleteTransaction 63) = true := by decide
theorem test_wf_later : Instr.wf (.ownBeaconExpiry [.entryToRun, .entryToRun]) = false
    ∧ Instr.wf (.ownBeaconExpiry [.dwellEnd 5]) = false := by decide
theorem test_wf_dwell_code : Instr.wf (.dwellEnd 7) = false ∧ Instr.wf (.dwellEnd 64) = false
    ∧ Instr.wf (.dwellEnd 8) = true := by decide
theorem test_wf_beacon_claims :
    Instr.wf (.beaconReceived { beaconOf2 0 Flags.clear with
      claims := List.replicate 5 { code := 8, level := 1 } }) = false
    ∧ Instr.wf (.beaconReceived { beaconOf2 0 Flags.clear with claims := [{ code := 0, level := 1 }] }) = false
    ∧ Instr.wf (.beaconReceived { beaconOf2 0 Flags.clear with claims := [{ code := 64, level := 1 }] }) = false
    ∧ Instr.wf (.beaconReceived (beaconOf2 0 Flags.clear)) = true := by decide
theorem test_wf_published :
    Published.wf (.pack ⟨true, 1501⟩ ⟨true, 0⟩ ⟨true, 0⟩ ⟨true, 1⟩) = false
    ∧ Published.wf (.drive ⟨true, 1001⟩ ⟨true, 0⟩) = false
    ∧ Published.wf (.cockpit ⟨true, 0⟩ ⟨true, 1001⟩ ⟨true, 1⟩) = false
    ∧ Published.wf (.charger ⟨true, 2⟩) = false
    ∧ Published.wf (.pack ⟨true, 1500⟩ ⟨true, 1023⟩ ⟨true, 1023⟩ ⟨true, 1⟩) = true := by decide
theorem test_wf_alert_level :
    Instr.wf (.alertReceived { sender := 0, ownLevel := 4, claim := { code := 8, level := 0 } }) = false := by
  decide
theorem test_wf_targets :
    Instr.wf (.ceaseReceived { sender := 2, target := 2, reason := .score }) = false
    ∧ Instr.wf (.readmitReceived { sender := 2, target := 2 }) = false := by decide

/-! ### Formats -/

theorem test_keys :
    natOf (Frame.alert { sender := 3, ownLevel := 0, claim := { code := 1, level := 1 } }).key = 7
    ∧ natOf (Frame.cease { sender := 0, target := 1, reason := .score }).key = 16
    ∧ natOf (Frame.beacon { beaconOf2 0 Flags.clear with sender := 2 }).key = 52 := by decide +kernel

/-- REPORT(9, level 3, fm 144, fr 256): byte 2 holds the level, bit 5 the top of fr. -/
theorem test_report_bytes :
    decodeTransaction { number := 0, role := .pack } 0x0409239000000027#64
      = .badRequest .failedCheck
    ∧ decodeTransaction { number := 0, role := .pack }
        ((0x04092390000000#56) ++ checkByte 0x04092390000000#56) = .report 9 3 144 256 none := by
  decide +kernel

theorem test_request_bytes :
    decodeTransaction { number := 0, role := .pack } 0x0000000000000000#64 = .emptyRequest
    ∧ decodeTransaction { number := 0, role := .pack } 0x02000000000000FD#64 = .seal
    ∧ decodeTransaction { number := 0, role := .pack } 0x13000000000000EC#64 = .badRequest .unassignedCode
    ∧ decodeTransaction { number := 0, role := .pack } 0x010401E000000019#64 = .setup 4 480 := by
  decide +kernel

theorem test_frame_bits :
    classifyFrame (Frame.cease { sender := 0, target := 1, reason := .selfContained }).wire
      = .good (.cease { sender := 0, target := 1, reason := .selfContained })
    ∧ frameCommand 1 (Frame.beacon (beaconOf2 5 Flags.clear)).wire
      = .beaconReceived (beaconOf2 5 Flags.clear) := by decide +kernel

/-- The seventh equal bit goes, as every bit after six equal ones does (R170), and the reading goes on: the key bits
000 000 1 remain, which name station 0 (log 34). -/
theorem test_broken_coding :
    classifyFrame ([false, false, false, false, false, false] ++ [false, false, true, true])
      = .attributed 0 := by decide +kernel

/-- R25: a frame of station 2 with a sound key, cut by a run of dominant. Beyond 2 ms it is no longer charged to it. -/
theorem test_cut_frame :
    let cut : Nat → List Bool := fun n => [false, false, true, true, false, true, false, false] ++ List.replicate n false
    frameCommand 1 (cut 498) = .attributedBadFrame 2 ∧ frameCommand 1 (cut 499) = .unattributedBadFrame := by
  decide +kernel

/-- A fetched word spells no command, since the table gives no row any bits. -/
theorem test_no_table_word : decodeTableWord 8 7 = none := rfl

/-! ### Figures of the worked cases -/

/-- 8.7: LIMP at MID with fm_min 144 gives 210 and 90. -/
theorem test_targets_of_8_7 :
    let x : EnvelopeInputs :=
      { running := true, nominalMotoring := 480, nominalRegen := 120, posture := .limp, fmMin := 144,
        frMin := 256, band := .mid, discharge := 400, acceptance := 100, contactorClosed := true,
        brakeApplied := false }
    x.motoringTarget = 210 ∧ x.regenTarget = 90 := by decide

/-- 8.7: from 210 the first expiry gives 218, and 394 is followed by 400 with the timer stopped. -/
theorem test_ramp_of_8_7 :
    (({ Envelope.initial with tm := 400, om := 210, motoringTimer := some 2 } : Envelope).riseMotoring 8).om
        = 218
    ∧ (({ Envelope.initial with tm := 400, om := 394, motoringTimer := some 2 } : Envelope).riseMotoring 8).om
        = 400
    ∧ (({ Envelope.initial with tm := 400, om := 394, motoringTimer := some 2 } :
        Envelope).riseMotoring 8).motoringTimer = none := by decide

/-- In CONFIG a walk boundary above the cruise boundary leaves two rows to one speed; log 17. -/
theorem test_band_before_the_seal : bandAt 300 200 .walk 250 = .fast ∧ bandAt 300 200 .fast 196 = .fast := by decide

/-- 4.7: 250 against 180 disagrees, 182 against 180 agrees, and station 2 is the outlier. -/
theorem test_outlier_of_4_7 :
    speedsDisagree 250 180 = true ∧ speedsDisagree 182 180 = false
    ∧ outlier speedsDisagree [(1, 180), (2, 250), (3, 182)] = some 2 := by decide

/-- 10.6: READ-ENVELOPE between two tokens costs one refresh error and is answered in the usual way. -/
theorem test_tokens_of_10_6 :
    (match exec (.refresh 1) (station .run) with
      | .next t => (match exec .readEnvelope t with
        | .next u => decide (u.supervision.errors = 1 ∧ u.supervision.firstToken = false
            ∧ u.link.responses.map Response.code = [9])
        | _ => false)
      | _ => false) = true := by decide +kernel

/-- A step takes the queue's front; an empty queue lets a millisecond pass. -/
theorem test_step_takes_the_front :
    (match step ((station .config).setPending [.seal, .emptyRequest]) with
      | .next t => decide (t.pending = [.emptyRequest] ∧ t.station = .join)
      | _ => false) = true
    ∧ (match step (station .config) with
      | .next t => decide (t.start.window = 199 ∧ t.station = .config)
      | _ => false) = true := by decide +kernel

/-! ### Witnesses: quiet states -/

/-- The states of `station` meet the premises about pins, envelope and served values. -/
theorem test_quiet (st : StationState) :
    PinsFollow (station st) ∧ EnvelopeLaw (station st) ∧ Settled (station st) := by
  unfold PinsFollow EnvelopeLaw EnvelopeFits Settled
  cases st <;> decide +kernel

theorem test_quiet_engine (st : StationState) : EngineLaw (station st) := by
  refine ⟨⟨?_, ?_⟩, ?_, ?_, ?_, ?_, ?_, ?_⟩ <;> cases st <;>
    simp [station, State.afterReset, Engine.initial, State.setStation, State.drivePins, State.setStart,
      State.setPins, StackShape, TopLive, liveCodes, generalCount]

theorem test_in_order_at_reset : PinsFollow State.reset ∧ ResponsesFit State.reset ∧ Settled State.reset
    ∧ EnvelopeLaw State.reset ∧ RejoinLaw State.reset ∧ OwedLaw State.reset ∧ OwnEntryLaw State.reset := by
  unfold PinsFollow ResponsesFit Settled EnvelopeLaw EnvelopeFits RejoinLaw OwedLaw OwnEntryLaw
  decide +kernel

theorem test_laws_at_reset : AttemptsFit State.reset ∧ ScoresFit State.reset ∧ SelectorLaw State.reset
    ∧ CeasedHolds State.reset ∧ ConditionsLaw State.reset := by
  unfold AttemptsFit AttemptLaw ScoresFit SelectorLaw CeasedHolds ConditionsLaw
  decide +kernel

theorem test_engine_at_reset : EngineLaw State.reset := by
  refine ⟨⟨?_, ?_⟩, ?_, ?_, ?_, ?_, ?_, ?_⟩ <;>
    simp [State.reset, State.afterReset, Engine.initial, StackShape, TopLive, liveCodes, generalCount]

/-- One taken record is in order. -/
theorem test_holding_engine (st : StationState) (life : Life) : EngineLaw (holding st 8 5 life) := by
  refine ⟨⟨?_, ?_⟩, ?_, ?_, ?_, ?_, ?_, ?_⟩ <;> cases st <;>
    simp [holding, recordOf, Engine.initial, State.drivePins, State.setEngine, State.setPins, StackShape,
      TopLive, liveCodes, generalCount, isGeneral, Config.generalSlots, FrameOwned]

theorem test_step_premises_meet :
    (∃ t, step (State.reset.setPending [.emptyRequest]) = .next t)
    ∧ (station .run).pending = [] ∧ NoTimerEnds (station .run) := by
  refine ⟨⟨_, rfl⟩, rfl, by decide +kernel, by decide +kernel, by decide +kernel, ?_, by decide +kernel,
    by decide +kernel⟩
  intro n h
  cases h

/-! ### Witnesses: requests -/

theorem test_ready_setup : Ready .setup (station .config)
    ∧ clampParameter 1 16 = some 15 ∧ clampParameter 0 7 = some 5 ∧ clampParameter 0 8 = some 10
    ∧ clampParameter 14 5 = some 5 ∧ clampParameter 15 0 = none := by unfold Ready; decide +kernel
theorem test_ready_publish : Ready .publish (station .run) ∧ quantityOf 4 = some .driveSpeed
    ∧ .driveSpeed ∈ (station .run).start.straps.role.quantities
    ∧ ∀ q ∈ (station .run).start.straps.role.quantities, quantityOf 0 ≠ some q := by
  unfold Ready; decide +kernel
theorem test_seal_premises : (station .config).station = .config
    ∧ (station .config).supervision.firstToken = false ∧ (station .config).record 1 = none
    ∧ (station .config).engine.cl < 7 := by decide +kernel
theorem test_busy_premises : requestOf (.refresh 1) = some .refresh
    ∧ (station .parking).station = .parking := by decide +kernel
theorem test_untaken_premises : requestOf .seal = some .seal ∧ (station .run).station ≠ .parking
    ∧ Request.seal.takenIn (station .run).station = false
    ∧ (station .run).supervision.firstToken = false := by decide +kernel
theorem test_between_tokens_premises :
    let s := (station .run).setSupervision { Supervision.initial with firstToken := true, errors := 1 }
    requestOf .readCause = some .readCause ∧ s.station ≠ .parking ∧ s.supervision.firstToken = true
      ∧ s.supervision.errors < 2 := by decide +kernel
/-- R159: the third error made by a request other than REFRESH raises SUPERVISION at level 6. -/
theorem test_third_error_premises :
    let s := (station .run).setSupervision { Supervision.initial with firstToken := true, errors := 2 }
    PinsFollow s ∧ requestOf (.badRequest .failedCheck) = some .bad ∧ 2 ≤ s.supervision.errors
      ∧ ∀ c ∈ [Instr.readCause, .badRequest .failedCheck],
          nextMeets c s (fun t => decide (t.supervision.errors = 0 ∧ (t.record 2).map Record.level = some 6)) = true := by
  unfold PinsFollow; decide +kernel
theorem test_ready_reads : Ready .readView (station .run) ∧ Ready .readStack (station .run)
    ∧ Ready .readCause (station .hold) ∧ Ready .readEnvelope (station .join)
    ∧ Ready .clearCause (station .config) := by unfold Ready; decide +kernel
/-- A view with a cease place, a readmit place, a rejoin timer, two READMITs owed and peer 2 in probation. -/
def viewed : State :=
  (withPeer (station .run) 2
    { entry .probation with
      lastSeq := 9, heard := true, age := 1, score := 200, muteReason := some .selfContained }).setIsolation
    { Isolation.initial with
      queue := [2], probation := some { station := 2, origin := .lost, clean := 3 }
      cease := [⟨4, 9, .selfContained⟩], readmit := [⟨5, 2⟩], rejoinTimer := some 7, owed := [0, 3] }
/-- R172, written out: the parts 6, 7 and 8 of the own view and part 0 of a peer. -/
theorem test_view_layouts :
    viewed.viewPayload 1 6
        = some 0b00_1_0000111_0_0_0_001_010_000_000_000_000_1_010_1_0011_001001_00#48
      ∧ viewed.viewPayload 1 7 = some 0b001_100_1001_1_00000000000000000000000000000000_00000#48
      ∧ viewed.viewPayload 1 8 = some 0b001_101_0010_0000000000000000000000000000_0000000000#48
      ∧ viewed.viewPayload 2 0
        = some 0b110_111_1001_1_0001_11001000_11_000_111_000_0000_0_10_000_0000#48 := by decide +kernel
/-- R172, written out: frame 1 of the stack, and part 1 of a record with a parameter. -/
theorem test_record_layouts :
    (holding .run 8 5 .holds).stackPayload 1
        = some 0b000_001000_101_0_00000000000000000000000000_000000000#48
      ∧ recordPart1 { recordOf 34 5 .holds true with firstSeen := 3, param := some ⟨2, some .muted⟩ }
        = 0b0000000000000011_1_010_10_00000000000_000000000000000#48 := by decide +kernel
/-- The last parts and the first that are not there. -/
theorem test_read_parts :
    (∀ x ∈ [(1, 8), (2, 3), (5, 3)], (viewed.viewPayload (BitVec.ofNat 8 x.1) (BitVec.ofNat 8 x.2)).isSome = true)
      ∧ (∀ x ∈ [(1, 9), (2, 4), (6, 0)], viewed.viewPayload (BitVec.ofNat 8 x.1) (BitVec.ofNat 8 x.2) = none)
      ∧ (viewed.stackPayload 3).isSome = true ∧ viewed.stackPayload 4 = none := by decide +kernel
/-- The fields of the statements and the part's packing agree at these values. -/
theorem test_read_fields :
    (∀ p ∈ [0, 1, 2, 3, 4, 5, 6, 7, 8, 9], ∀ i ∈ [0, 1, 2, 5, 6],
        (viewRead viewed (BitVec.ofNat 8 i) (BitVec.ofNat 8 p)).map payloadOf
          = viewed.viewPayload (BitVec.ofNat 8 i) (BitVec.ofNat 8 p))
      ∧ (∀ p ∈ [0, 1, 2, 3, 4], (stackRead (holding .run 8 5 .holds) p).map payloadOf
          = (holding .run 8 5 .holds).stackPayload p)
      ∧ (∀ a b c : Bool, payloadOf (causeRead ⟨a, b, c⟩) = causePayload ⟨a, b, c⟩) := by decide +kernel
theorem test_refresh_premises :
    let s := (station .run).setSupervision { Supervision.initial with firstToken := true, errors := 2 }
    s.station = .run ∧ PinsFollow s ∧ s.supervision.firstToken = true
      ∧ (station .run).supervision.firstToken = false ∧ 2 ≤ s.supervision.errors := by
  unfold PinsFollow; decide +kernel
theorem test_ready_rejoin :
    let s := (((station .run).setIsolation { Isolation.initial with own := .isolated })).drivePins
    Ready .rejoin s ∧ PinsFollow s ∧ s.isolation.own = .isolated := by
  unfold Ready PinsFollow; decide +kernel
theorem test_restart_premises :
    let s := (station .config).setLink { Link.initial with restartArmed := true }
    PinsFollow s ∧ s.station = .config ∧ s.link.restartArmed = true := by unfold PinsFollow; decide +kernel
theorem test_report_premises : Ready .report (station .run) ∧ (station .run).record 9 = none
    ∧ (station .run).generalFull = false ∧ clampLevel 0 = 1 ∧ clampLevel 8 = 7 ∧ clampLevel 7 = 7 := by
  unfold Ready; decide +kernel
theorem test_alert_rule_premises :
    let q : Level → Bool → Queued Alert := fun l c =>
      { frame := { sender := 1, ownLevel := l, claim := { code := 8, level := l } }, attempt := 1, committed := c }
    placeAlert (q 5 false).frame [q 4 true, q 5 false, q 6 false, q 5 false]
        = [q 4 true, q 6 false, q 5 false, q 5 false]
      ∧ placeAlert (q 4 false).frame [q 4 true, q 5 false, q 6 false, q 5 false]
        = [q 4 true, q 5 false, q 6 false, q 5 false]
      ∧ placeAlert (q 7 false).frame [q 4 true, q 4 true, q 4 true, q 4 true]
        = [q 4 true, q 4 true, q 4 true, q 4 true] := by decide +kernel
theorem test_reraise_premises : Ready .report (holding .run 8 5 .latched)
    ∧ (holding .run 8 5 .latched).record 8 = some (recordOf 8 5 .latched true) := by
  unfold Ready; decide +kernel
theorem test_fold_premises : Ready .report (full .run) ∧ (full .run).record 20 = none
    ∧ (full .run).generalFull = true ∧ (full .run).record 4 = none := by unfold Ready; decide +kernel
theorem test_withdraw_premises : Ready .withdraw (holding .run 8 5 .holds)
    ∧ PinsFollow (holding .run 8 5 .holds)
    ∧ ((holding .run 8 5 .holds).record 8).map Record.life = some .holds := by
  unfold Ready PinsFollow; decide +kernel
theorem test_clear_premises : Ready .clear (holding .run 8 5 .latched)
    ∧ PinsFollow (holding .run 8 5 .latched)
    ∧ ((holding .run 8 5 .latched).record 8).map Record.life = some .latched
    ∧ (holding .run 8 5 .latched).engine.contactor ≠ .releasing
    ∧ ((holding .run 8 5 .holds).record 8).map Record.life ≠ some .latched := by
  unfold Ready PinsFollow; decide +kernel
/-- Above the uncovered CL one record waits, or none does. -/
theorem test_unwind_premises :
    let s := (holding .run 8 5 .latched).setEngine
      { (holding .run 8 5 .latched).engine with
        records := [recordOf 8 5 .latched true, recordOf 9 3 .holds false, recordOf 10 3 .holds false] }
    waitingAbove 8 (holding .run 8 5 .latched) = []
      ∧ waitingAbove 8 s = [recordOf 9 3 .holds false, recordOf 10 3 .holds false]
      ∧ uncovered 8 s = (0, []) ∧ Ready .clear s := by unfold Ready; decide +kernel
theorem test_query_premises : Ready .query (holding .run 8 5 .holds)
    ∧ recordOf 8 5 .holds true ∈ (holding .run 8 5 .holds).engine.records
    ∧ (recordOf 8 5 .holds true).unread = true ∧ (station .run).anyUnread = false
    ∧ (station .run).record 8 = none := by unfold Ready; decide +kernel
theorem test_park_premises :
    let s := ((((station .run).setStart { (station .run).start with parkArmed := true }).setSelector
      { (station .run).selector with
        served := { (station .run).selector.served with
          speed := some { value := 9, source := some 1, rank := .primary } } })).drivePins
    PinsFollow s ∧ s.start.parkArmed = true ∧ s.anyUnread = false
      ∧ (∃ v ∈ s.selector.served.speed, v.value < 10) ∧ s.config.strict = false
      ∧ (station .run).start.parkArmed = false := by unfold PinsFollow; decide +kernel

/-! ### Witnesses: timers and pins -/

/-- A drive speed of 100 whose count stands at `n`. -/
def published (n : Nat) : State :=
  let s := (station .run).setSelector
    { (station .run).selector with own := [⟨.driveSpeed, 100, true, n⟩, ⟨.linkVoltage, 0, false, 0⟩], band := .mid }
  s.setSelector { s.selector with served := s.resolved }

/-- R57: the fourth own expiry carries the value invalid, with FRESHNESS_EXPIRY before it or without. -/
theorem test_fourth_beacon_is_invalid :
    let invalid := fun t : State => decide
      ((t.line.beacon.map fun q => q.frame.beacon.published) = some (.drive ⟨false, 100⟩ ⟨false, 0⟩)
        ∧ t.selector.own.head? = some ⟨.driveSpeed, 100, false, 4⟩)
    expiryMeets (published 3) invalid = true ∧ expiryMeets (published 2) invalid = false
      ∧ nextMeets (.freshnessExpiry .driveSpeed) (published 3) (fun t => expiryMeets t invalid) = true := by
  decide +kernel
/-- A valid own value at each count that FRESHNESS_EXPIRY ends and at one it leaves; the band goes with the speed. -/
theorem test_freshness_premises :
    (∀ n ∈ [2, 3, 4], (published n).station.onLine = true ∧ Settled (published n))
      ∧ nextMeets (.freshnessExpiry .driveSpeed) (published 3) (fun t => decide (t.selector.band = .unknown)) = true
      ∧ nextMeets (.freshnessExpiry .driveSpeed) (published 2) (fun t => decide (t = published 2)) = true
      ∧ nextMeets (.publish 4 250) (published 0) (fun t => decide (t.selector.band = .fast)) = true := by
  unfold Settled; decide +kernel
theorem test_conditions_premises :
    let fresh := (station .run).setSelector
      { (station .run).selector with own := [⟨.driveSpeed, 100, true, 4⟩, ⟨.linkVoltage, 0, false, 0⟩] }
    let fresh := fresh.setSelector { fresh.selector with served := fresh.resolved }
    ConditionsLaw riding ∧ Settled riding ∧ PinsFollow riding ∧ Ready .publish riding
      ∧ TableLaw riding.engine.records ∧ RejoinLaw riding
      ∧ ConditionsLaw fresh ∧ Settled fresh ∧ fresh.station = .run
      ∧ nextMeets (.publish 4 100) riding (fun t => decide (t.selector.speedUnknown = false)) = true
      ∧ nextMeets (.freshnessExpiry .driveSpeed) fresh
          (fun t => decide ((t.record 57).map Record.level = some 5)) = true := by
  unfold ConditionsLaw Settled PinsFollow Ready TableLaw RejoinLaw; decide +kernel
/-- The record of a condition that holds is presented where it is absent; one that is present stays. -/
theorem test_presentation_premises :
    let s := (holding .run 57 5 .holds).setSelector riding.selector
    ({ code := 57, level := 5, fm := 256, fr := 256 } : Raise) ∈ presentedBy riding
      ∧ expiryMeets riding (fun t => decide ((t.record 57).map Record.count = some 1
          ∧ ({ code := 57, level := 5, fm := 256, fr := 256 } : Raise) ∈ presentedBy t)) = true
      ∧ Settled s ∧ RejoinLaw s ∧ TableLaw s.engine.records ∧ ConditionsLaw s
      ∧ s.record 57 = some (recordOf 57 5 .holds true)
      ∧ expiryMeets s (fun t => decide (untaken (t.record 57) = untaken (s.record 57) ∧ t.record 4 = none)) = true := by
  unfold Settled RejoinLaw TableLaw ConditionsLaw; decide +kernel
theorem test_selector_premises :
    let s := (station .run).setSelector
      { (station .run).selector with speedCount := 4, voltageCount := 4, brakeCount := 3 }
    s.station = .run ∧ Settled s ∧ s.generalFull = false ∧ 4 ≤ s.persistence .speed
      ∧ 4 ≤ s.persistence .voltage ∧ s.selector.speedDisputed = false ∧ s.selector.brakeHolds = false
      ∧ s.record 56 = none ∧ s.record 58 = none := by unfold Settled; decide +kernel
/-- An outlier that nothing else touches is charged at the own expiry; 4.7. -/
theorem test_outlier_charge_premises :
    RejoinLaw (station .run) ∧ SelectorLaw (station .run) ∧ RejoinLaw disputing ∧ SelectorLaw disputing
      ∧ OwnEntryLaw disputing ∧ Settled disputing
      ∧ expiryMeets disputing (fun t =>
          decide (t.speedSources = [(1, 180), (2, 250), (4, 182)]
            ∧ (t.peer 2).score = 16 ∧ (t.peer 4).score = 0)) = true := by
  unfold RejoinLaw SelectorLaw OwnEntryLaw Settled; decide +kernel

/-- The link voltage of station 2 alone disagrees with pack and own link, the voltage check disputed. -/
theorem test_voltage_charge_premises :
    let s := withPeer (withPeer (station .run) 0
        { entry .live with heard := true, published := some (.pack ⟨true, 500⟩ ⟨true, 0⟩ ⟨true, 0⟩ ⟨true, 1⟩) }) 2
        { entry .live with heard := true, published := some (.drive ⟨false, 0⟩ ⟨true, 900⟩) }
    let s := s.setSelector
      { s.selector with
        own := [⟨.driveSpeed, 0, false, 0⟩, ⟨.linkVoltage, 500, true, 0⟩], voltageDisputed := true }
    let s := s.setSelector { s.selector with served := s.resolved }
    RejoinLaw s ∧ SelectorLaw s ∧ OwnEntryLaw s ∧ Settled s
      ∧ expiryMeets s (fun t =>
          decide (t.voltageSources = [(0, 500), (1, 500), (2, 900)] ∧ (t.peer 2).score = 16)) = true := by
  unfold RejoinLaw SelectorLaw OwnEntryLaw Settled; decide +kernel

/-- A disputed speed check agrees again; every score lies below 176. -/
theorem test_agreeing_premises :
    let s := withPeer disputing 2
      { entry .live with heard := true, published := some (.drive ⟨true, 181⟩ ⟨false, 0⟩) }
    let s := s.setSelector { s.selector with served := s.resolved }
    RejoinLaw s ∧ SelectorLaw s ∧ Settled s ∧ (∀ i, (agedBy (s.peer i)).score < 176)
      ∧ expiryMeets s (fun t =>
          decide (t.selector.speedDisputed = false ∧ t.selector.band = .mid)) = true := by
  unfold RejoinLaw SelectorLaw Settled; decide +kernel
theorem test_dispute_ends_premises :
    let s := (holding .run 56 3 .holds).setSelector { (station .run).selector with speedDisputed := true }
    RejoinLaw s ∧ SelectorLaw s ∧ Settled s ∧ TableLaw s.engine.records
      ∧ s.record 56 = some (recordOf 56 3 .holds true)
      ∧ expiryMeets s (fun t => decide ((t.record 56).map Record.life = some (.dwell 4))) = true := by
  unfold RejoinLaw SelectorLaw Settled TableLaw; decide +kernel
theorem test_dwell_premises : Settled (holding .run 8 5 (.dwell 0))
    ∧ ((holding .run 8 5 (.dwell 0)).record 8).map Record.life = some (.dwell 0) := by
  unfold Settled; decide +kernel
theorem test_dwell_expiry_premises :
    ∀ st ∈ [StationState.join, .run, .parking], (holding st 8 5 (.dwell 1)).station.onLine = true
      ∧ (holding st 8 5 (.dwell 1)).record 8 = some (recordOf 8 5 (.dwell 1) true)
      ∧ Later.dwellEnd 8 ∉ [Later.entryToRun] := by decide +kernel
theorem test_trip_premises : (station .run).tripEnabled 3 = true ∧ (station .run).tripLevel 3 = false
    ∧ ((station .run).setTrips 8#4).tripLevel 3 = true ∧ Settled ((station .run).setTrips 8#4)
    ∧ PinsFollow ((station .run).setTrips 8#4).drivePins := by unfold Settled PinsFollow; decide +kernel
theorem test_trip_by_state_premises :
    ∀ st ∈ [StationState.hold, .config, .join, .run, .parking, .parked],
      (station st).tripLevel 3 = false ∧ (station st).tripEnabled 3 = true ∧ Settled (station st)
        ∧ PinsFollow (station st) ∧ EnvelopeLaw (station st)
        ∧ PinsFollow ((station st).setTrips 8#4).drivePins ∧ EnvelopeLaw ((station st).setTrips 8#4).drivePins := by
  unfold Settled PinsFollow EnvelopeLaw EnvelopeFits; decide +kernel
theorem test_trip_disabled_premises :
    let s := (station .run).setConfig { (station .run).config with enables := 0#4 }
    s.tripEnabled 3 = false ∧ s.tripLevel 3 = false ∧ Settled s ∧ PinsFollow s ∧ EnvelopeLaw s := by
  unfold Settled PinsFollow EnvelopeLaw EnvelopeFits; decide +kernel
/-- A beacon built at an expiry in RUN; a periodic beacon in the slot is not committed. -/
theorem test_beacon_of_expiry_premises :
    let s := (station .run).setLine
      { LineInterface.initial with
        beacon := some { frame := { beacon := beaconOf2 0 Flags.clear, numbered := false }, attempt := 1
                         committed := false } }
    (∀ q ∈ s.line.beacon, q.committed = false ∧ q.frame.beacon.flags.parking = false)
      ∧ s.line.parkingWaiting = none ∧ s.isolation.queue = []
      ∧ expiryMeets s (fun t => decide (t.station = s.station ∧ t.line.beacon.isSome = true)) = true
      ∧ (station .parking).station.onLine = true := by decide +kernel
theorem test_claims_premises : ClaimsOf (holding .run 8 5 .holds) [{ code := 8, level := 5 }] := by
  unfold ClaimsOf; decide +kernel
theorem test_expiry_premises : (station .join).station.onLine = true
    ∧ (station .join).line.parkingWaiting = none ∧ (station .join).line.beacon = none
    ∧ (station .hold).station.onLine = false := by decide +kernel
theorem test_discovery_premises :
    let s := fun n : Nat => (station .join).setStart { (station .join).start with discovery := n }
    (s 2).start.discovery < 3 ∧ 3 ≤ (s 3).start.discovery ∧ 4 ≤ (s 4).start.discovery
      ∧ (s 4).station = .join ∧ roleMissing (s 4).start.population = true ∧ (s 4).record 54 = none
      ∧ Settled (s 4) ∧ (s 3).record 57 = none ∧ (s 3).record 59 = none
      ∧ nextMeets .entryToRun (s 4) (fun t => decide ((t.record 57).map Record.life = some .holds)) = true := by
  unfold Settled; decide +kernel
theorem test_clash_premises :
    let s := (station .run).setStart
      { (station .run).start with
        conflictHeld := true
        population := (Six.all { role := some .drive, clash := 0 } |>.set 0 { role := some .pack, clash := 0 }
          |>.set 3 { role := some .cockpit, clash := 0 } |>.set 5 { role := some .charger, clash := 0 }) }
    s.station = .run ∧ Settled s ∧ PinsFollow s ∧ (s.start.population.get 2).clash = 0
      ∧ roleMissing s.start.population = s.start.missingHeld ∧ s.start.missingHeld = false
      ∧ roleConflict s.start.population = false := by unfold Settled PinsFollow; decide +kernel
theorem test_peer_loss_premises :
    ∀ age ∈ [5, 6],
      let s := withPeer (station .run) 2 { entry .live with age := age, selfCount := 16 }
      s.station = .run ∧ Settled s ∧ (s.peer 2).state.trusted = true ∧ s.config.lossLimit = 6
        ∧ 16 ≤ (s.peer 2).selfCount ∧ s.record 34 = none ∧ s.generalFull = false
        ∧ nextMeets (.selfContainedCount 2) s (fun t => decide
            ((t.peer 2).state = if age < 6 then .muted else .live)) = true := by
  unfold Settled; decide +kernel
/-- R48 after R45: a peer that ages to the loss limit at the expiry that would bring its count to 16 is lost, not muted,
be the loss taken within the expiry or as PEER_LOSS. -/
theorem test_loss_before_self_count :
    let s := withPeer (station .run) 2 { entry .live with age := 5, ownLevel := 7, selfCount := 15 }
    let lost := fun t : State => decide ((t.peer 2).state = .lost ∧ (t.peer 2).selfCount = 0)
    expiryMeets s lost = true
      ∧ nextMeets (.ownBeaconExpiry [.peerLoss 2]) s (fun t =>
          decide ((t.peer 2).state = .live ∧ (t.peer 2).selfCount = 15)
            && nextMeets (.selfContainedCount 2) t (fun u => decide (u = t)) && nextMeets (.peerLoss 2) t lost) = true := by
  decide +kernel
/-- The seal sets W to C and leaves a band MID held as it is (log 40). -/
theorem test_band_at_the_seal :
    let s := (station .config).setConfig { (station .config).config with walk := 300, cruise := 200 }
    nextMeets .seal (s.setSelector { s.selector with band := .mid })
      (fun t => decide (t.config.walk = 200 ∧ t.selector.band = .mid)) = true := by decide +kernel
/-- R119: a PACK waits for DRIVE 2; the drive's beacon, its loss and its mute each release the contactor. -/
theorem test_drive_condition_premises :
    let p := station .run
    let s := fun age : Nat => (withPeer { p with start := { p.start with straps := { number := 1, role := .pack } } } 2
      { entry .live with
        heard := true, age := age, selfCount := 16, posture := some .normal
        published := some (.drive ⟨true, 5⟩ ⟨false, 0⟩) }).setEngine
      { (holding .run 8 7 .latched).engine with contactor := .releasing, releaseCount := 1 }
    let s := fun age : Nat => ((s age).setSelector { (s age).selector with served := (s age).resolved }).drivePins
    let released := fun t : State => decide (t.engine.contactor = .released ∧ t.driveCondition = true)
    (∀ age ∈ [0, 6],
        Settled (s age) ∧ (s age).driveCondition = false ∧ (s age).engine.contactor = .releasing)
      ∧ nextMeets (.beaconReceived { beaconOf2 1 Flags.clear with posture := .coast }) (s 6) released = true
      ∧ nextMeets (.peerLoss 2) (s 6) released = true ∧ nextMeets (.selfContainedCount 2) (s 0) released = true := by
  unfold Settled; decide +kernel
theorem test_clash_age_premises :
    ∀ st ∈ [StationState.run, .parking],
      let s := (station st).setPlace 2 { role := some .drive, clash := 1 }
      s.station.riding = true ∧ (s.start.population.get 2).clash = 1 ∧ Later.clashAge 2 ∉ ([] : List Later) := by
  decide +kernel
theorem test_ageing_premises :
    let s := fun e : PeerEntry => withPeer (station .parking) 2 e
    let young := s { entry .live with heard := true, age := 5 }
    let old := s { entry .suspect with age := 5 }
    RejoinLaw young ∧ RejoinLaw old ∧ Settled young ∧ Settled old
      ∧ (agedBy (young.peer 2)).age = 5 ∧ (agedBy (old.peer 2)).age = old.config.lossLimit
      ∧ (agedBy (old.peer 2)).score = 12 ∧ selfCountAfter (young.peer 2) = 0
      ∧ old.selector.speedDisputed = false ∧ old.selector.voltageDisputed = false
      ∧ Later.peerLoss 2 ∉ ([] : List Later) ∧ Settled (station .join) := by unfold RejoinLaw Settled; decide +kernel
theorem test_muting_expiry_premises :
    let s := fun e : PeerEntry => withPeer (station .run) 2 e
    let scored := s { entry .live with age := 1, score := 180 }
    let contained := s { entry .live with heard := true, ownLevel := 7, selfCount := 15 }
    RejoinLaw scored ∧ RejoinLaw contained ∧ Settled scored ∧ Settled contained
      ∧ (agedBy (scored.peer 2)).score = 192 ∧ selfCountAfter (contained.peer 2) = 16
      ∧ (agedBy (contained.peer 2)).score = 0 ∧ (agedBy (contained.peer 2)).age = 0 := by
  unfold RejoinLaw Settled; decide +kernel
theorem test_release_expiry_premises :
    let s := (withPeer (holding .parking 8 7 .latched) 0
      { entry .live with heard := true, published := some (.pack ⟨true, 0⟩ ⟨true, 0⟩ ⟨true, 0⟩ ⟨true, 1⟩) }).setContactor
        .releasing 2
    s.station.riding = true ∧ s.engine.contactor = .releasing
      ∧ expiryMeets s (fun t =>
          decide (t.engine.cl = s.engine.cl ∧ t.driveCondition = s.driveCondition)) = true := by
  decide +kernel
theorem test_release_premises :
    let s := ((station .run).setContactor .releasing 3).drivePins
    s.station.riding = true ∧ Settled s ∧ PinsFollow s ∧ s.engine.contactor = .releasing
      ∧ 3 ≤ s.engine.releaseCount := by unfold Settled PinsFollow; decide +kernel
theorem test_isolation_timer_premises :
    let s := ((station .run).setIsolation
      { Isolation.initial with own := .rejoining, rejoinTimer := some 64, cease := [⟨2, 16, .score⟩] }).drivePins
    s.station = .run ∧ Settled s ∧ PinsFollow s ∧ s.isolation.own = .rejoining
      ∧ 64 ≤ s.isolation.rejoinTimer.getD 0 ∧ QuorumShort s := by
  unfold Settled PinsFollow QuorumShort; decide +kernel
theorem test_isolation_expiry_premises :
    let s := fun n : Nat => (withPeer (station .run) 2 { entry .muted with muteHold := some 1 }).setIsolation
      { Isolation.initial with
        own := .rejoining, rejoinTimer := some n, cease := [⟨2, 15, .score⟩], readmit := [⟨3, 14⟩] }
    Settled (s 63) ∧ CeasedHolds (s 63) ∧ CeasedHolds (holding .run 3 7 .holds)
      ∧ (s 63).station.onLine = true ∧ ((s 63).peer 2).state = .muted
      ∧ 2 ∉ (s 63).isolation.queue
      ∧ expiryMeets (s 63) (fun t => decide (t.isolation.own = .isolated)) = true
      ∧ expiryMeets (s 62) (fun t => decide (t.isolation.own = .rejoining)) = true
      ∧ expiryMeets (((station .join).setIsolation { Isolation.initial with readmit := [⟨2, 15⟩] }))
          (fun t => decide (t.isolation.own = .active ∧ t.isolation.readmit = [])) = true := by
  unfold Settled CeasedHolds; decide +kernel
/-- R152: of three READMITs owed one waits already, one finds the last place and one stays owed. -/
theorem test_owed_premises :
    let s := withPeer (withPeer (withPeer (station .run) 2 { entry .live with heard := true }) 3
      { entry .live with heard := true }) 5 { entry .suspect with heard := true, score := 90 }
    let q : Directive → Queued Directive := fun d => { frame := d, attempt := 1, committed := false }
    let s := (s.setLine
      { s.line with directives := [q (.readmit 3), q (.cease 0 .score), q (.cease 4 .score)] }).setIsolation
        { s.isolation with owed := [2, 3, 5] }
    s.station.onLine = true ∧ OwedLaw s ∧ readmitsDue s = [2, 5]
      ∧ expiryMeets s (fun t => decide
          (t.line.directives = s.line.directives ++ [q (.readmit 2)] ∧ t.isolation.owed = [5])) = true := by
  unfold OwedLaw; decide +kernel
theorem test_supervision_premises :
    let s := (station .run).setSupervision { Supervision.initial with running := true, count := 1 }
    s.station = .run ∧ Settled s ∧ s.supervision.running = true ∧ s.record 2 = none := by
  unfold Settled; decide +kernel

/-- In RUN with the contactor closed and the brake free both outputs ramp. -/
def ramping : State :=
  let s := withPeer (withPeer (station .run) 0
    { entry .live with published := some (.pack ⟨true, 500⟩ ⟨true, 400⟩ ⟨true, 100⟩ ⟨true, 1⟩) }) 3
    { entry .live with published := some (.cockpit ⟨true, 0⟩ ⟨true, 0⟩ ⟨true, 0⟩) }
  (s.setSelector { s.selector with served := s.resolved }).recompute.drivePins

theorem test_rise_premises : Settled ramping ∧ EnvelopeLaw ramping
    ∧ ramping.envelope.motoringTimer = some 2 ∧ ramping.envelope.regenTimer = some 2
    ∧ ramping.envelope.tm = 400 ∧ ramping.envelope.tr = 100 := by
  unfold Settled EnvelopeLaw EnvelopeFits; decide +kernel
theorem test_target_premises : ramping.envelopeInputs.running = true := by decide +kernel

/-! ### Witnesses: sending -/

theorem test_waking_premises : (station .parked).station = .parked
    ∧ (station .parked).supervision.firstToken = false := by decide +kernel
theorem test_offer_premises :
    let l := (attempting .run .beacon 1 0 false).line
    ((station .run).setLine { l with attempt := none }).offered = some .alert
      ∧ headOf l .alert = some true ∧ headOf l .beacon = some true
      ∧ ((station .parked).setLine { l with attempt := none }).offered = some .wake
      ∧ (station .run).offered = none
      ∧ l.attempt.isSome = true ∧ (station .run).line.attempt = none := by decide +kernel

/-- 2.7: a full queue met while an attempt is on the line spares the frame only where the attempt wins. -/
theorem test_lost_attempt_gives_up_the_alert :
    let q : Level → Queued Alert := fun l =>
      { frame := { sender := 1, ownLevel := l, claim := { code := 8, level := l } }, attempt := 1, committed := false }
    let s := (station .run).setLine { LineInterface.initial with alerts := [q 4, q 5, q 5, q 5] }
    (match exec .attemptStart s with
      | .next t =>
        let u := t.giveAlert (q 6).frame
        decide (u.line.alerts.map (fun x => x.frame.ownLevel) = [4, 5, 5, 6])
          && (match exec .lostContention u with
            | .next v => decide (v.line.alerts.map (fun x => x.frame.ownLevel) = [5, 5, 5, 6])
            | _ => false)
      | _ => false) = true := by decide +kernel
theorem test_waiting_beacon_premises :
    Settled (parkWaiting .parking 1 0) ∧ PinsFollow (parkWaiting .parking 1 0)
      ∧ (parkWaiting .parking 1 0).line.parkingWaiting.isSome = true
      ∧ (parkWaiting .parking 1 0).line.beacon.isSome = true
      ∧ (parkWaiting .parking 3 6).generalFull = false
      ∧ (∀ q ∈ (parkWaiting .parking 3 6).line.beacon, 3 ≤ q.attempt) := by
  unfold Settled PinsFollow; decide +kernel
/-- R61: a condition whose record is gone does not hold in PARKED. -/
theorem test_parking_ends_conditions :
    let s := attempting .parking .beacon 1 0 true
    (match exec .attemptSuccess (s.setSelector { s.selector with brakeHolds := true, chargeHolds := true }) with
      | .next t => decide (t.station = .parked ∧ t.selector.brakeHolds = false ∧ t.selector.chargeHolds = false)
      | _ => false) = true := by decide +kernel
theorem test_abandon_premises :
    let s := attempting .parking .beacon 3 0 true
    let u := attempting .parking .alert 1 7 true
    let w := (station .parking).setSupervision { Supervision.initial with running := true, count := 1 }
    Settled s ∧ Settled u ∧ Settled w ∧ AttemptsFit s ∧ AttemptsFit u ∧ s.generalFull = false
      ∧ s.station = .parking
      ∧ s.line.parkingWaiting = none ∧ u.line.txFailures = 7 ∧ w.supervision.running = true
      ∧ (∃ q ∈ s.line.beacon, q.frame.beacon.flags.parking = true ∧ 3 ≤ q.attempt)
      ∧ Settled (attempting .parked .wake 1 0 false) ∧ (attempting .parked .wake 1 0 false).station = .parked := by
  unfold Settled AttemptsFit AttemptLaw; decide +kernel
theorem test_success_premises :
    Settled (attempting .run .alert 1 8 false) ∧ PinsFollow (attempting .run .alert 1 8 false)
    ∧ Settled (attempting .parking .beacon 2 0 true) ∧ PinsFollow (attempting .parking .beacon 2 0 true)
    ∧ ((attempting .parking .beacon 2 0 true).line.beacon.map fun q => q.frame.beacon.flags.parking)
        = some true := by unfold Settled PinsFollow; decide +kernel
theorem test_failure_premises :
    let s := withPeer (attempting .run .directive 3 7 false) 2 (entry .muted)
    s.line.attempt = some { queue := .directive, wasCommitted := true, ifLost := LineInterface.initial.toHeldFrames } ∧ Settled s ∧ s.station = .run
      ∧ s.line.parkingWaiting = none ∧ s.generalFull = false ∧ s.record 52 = none
      ∧ (s.peer 2).state = .muted ∧ droppedBy ⟨.directive, true, LineInterface.initial.toHeldFrames⟩ s = [.cease 2 .score]
      ∧ nextMeets .attemptFailure s (fun t => (t.peer 2).ceasePending) = true := by unfold Settled; decide +kernel
/-- A READMIT dropped after its last attempt, or discarded at the entry to PARKED, is owed again. -/
theorem test_readmit_lost_premises :
    let q : Queued Directive := { frame := .readmit 2, attempt := 3, committed := true }
    let s := fun st k => let s := withPeer (attempting st k 3 0 true) 2 (entry .live)
      (s.setLine { s.line with directives := [q] }).drivePins
    Settled (s .run .directive) ∧ (s .run .directive).generalFull = false
      ∧ Settled (s .parking .beacon) ∧ PinsFollow (s .parking .beacon)
      ∧ nextMeets .attemptFailure (s .run .directive) (fun t => decide (t.isolation.owed = [2])) = true
      ∧ nextMeets .attemptSuccess (s .parking .beacon)
          (fun t => decide (t.station = .parked ∧ t.isolation.owed = [2])) = true := by
  unfold Settled PinsFollow; decide +kernel

/-! ### Witnesses: receiving -/

theorem test_beacon_premises :
    let b := beaconOf2 1 Flags.clear
    let s := fun e : PeerEntry => withPeer (station .run) 2 e
    Settled (station .run) ∧ b.wf = true ∧ b.sender ≠ (station .run).own
      ∧ ((station .run).start.population.get 2).role = none ∧ ((station .run).peer 2).state = .absent
      ∧ Settled (s (entry .suspect)) ∧ ((s (entry .suspect)).peer 2).state.trusted = true
      ∧ scoredBy { entry .live with score := 195 } b = 191
      ∧ scoredBy (entry .live) { b with sequence := 2 } = 2
      ∧ scoredBy { entry .live with score := 250 } { b with sequence := 15 } = 251 := by
  unfold Settled; decide +kernel

/-- The first beacon of the last role missing ends ROLE-MISSING. -/
theorem test_role_heard_premises :
    let s := (holding .run 54 6 .holds).setStart
      { (holding .run 54 6 .holds).start with
        missingHeld := true
        population := (Six.all { role := some .drive, clash := 0 } |>.set 2 { role := none, clash := 0 }
          |>.set 0 { role := some .pack, clash := 0 } |>.set 3 { role := some .cockpit, clash := 0 }) }
    let b : Beacon := { beaconOf2 1 Flags.clear with published := .charger ⟨false, 1⟩ }
    Settled s ∧ (s.record 54).isSome = true
      ∧ (match exec (.beaconReceived b) s with
        | .next t => decide (t.start.missingHeld = false
            ∧ (t.record 54).map Record.life = some .latched)
        | _ => false) = true := by unfold Settled; decide +kernel

/-- A beacon of another period begins CONFIG-MISMATCH, and PEER-POSTURE by its own level; one that agrees ends it. -/
theorem test_entry_record_premises :
    let b : Beacon := { beaconOf2 1 Flags.clear with period := .ms5, ownLevel := 4 }
    let s := withPeer (holding .run 46 4 .holds) 2 { entry .live with period := some .ms5 }
    let charge : Beacon := { beaconOf2 1 Flags.clear with published := .charger ⟨true, 1⟩ }
    TableLaw (station .run).engine.records ∧ TableLaw s.engine.records ∧ Settled s
      ∧ nextMeets (.beaconReceived b) (station .run) (fun t =>
          decide ((t.record 46).map Record.level = some 4 ∧ (t.record 40).map Record.level = some 4)) = true
      ∧ nextMeets (.beaconReceived (beaconOf2 1 Flags.clear)) s (fun t =>
          decide ((t.record 46).map Record.life = some (.dwell 4))) = true
      ∧ nextMeets (.beaconReceived charge) riding (fun t =>
          decide ((t.record 59).map Record.level = some 6)) = true
      ∧ nextMeets (.beaconReceived (beaconOf2 1 { Flags.clear with joining := true }))
          (withPeer (station .run) 2 (entry .live)) (fun t =>
            decide ((t.record 34).map Record.count = some 2)) = true := by
  unfold TableLaw Settled; decide +kernel

/-- A gap of 15 brings 44: from 148 it mutes a LIVE peer, and a PARKED one that returns, in RUN only, and from 147 not.
PEER-POSTURE and CONFIG-MISMATCH, which the beacon begins, end with the mute (log 32). -/
theorem test_muting_beacon_premises :
    let b : Beacon := { beaconOf2 15 Flags.clear with period := .ms5, ownLevel := 5 }
    let e := fun (st : EntryState) (n : Nat) => { entry st with score := n }
    let s := fun (st : EntryState) (n : Nat) => withPeer (station .run) 2 (e st n)
    b.wf = true
      ∧ (∀ st ∈ [EntryState.live, .suspect, .parked],
        Settled (s st 148) ∧ RejoinLaw (s st 148) ∧ TableLaw (s st 148).engine.records
          ∧ mutesBy (s st 148) (e st 148) b = true ∧ mutesBy (s st 147) (e st 147) b = false
          ∧ nextMeets (.beaconReceived b) (s st 148) (fun t => decide
              ((t.peer 2).state = .muted ∧ (t.peer 2).muteReason = some .score
                ∧ (t.record 34).map Record.life = some .holds ∧ (t.record 40).map Record.life = some .latched
                ∧ (t.record 46).map Record.life = some (.dwell 4))) = true)
      ∧ mutesBy (station .join) (e .live 200) b = false
      ∧ mutesBy (station .run) (e .parked 200) { b with flags := { Flags.clear with parking := true } } = false := by
  unfold Settled RejoinLaw TableLaw; decide +kernel

/-- An entry of each kind that a beacon finds, with no probation running and with one. -/
theorem test_restart_or_park_premises :
    let s := fun e : PeerEntry => withPeer (onProbation 0) 4 e
    let first := fun e : PeerEntry => withPeer (station .run) 2 e
    (∀ st ∈ [EntryState.live, .suspect, .parked, .lost, .muted],
      Settled (s (entry st)) ∧ RejoinLaw (s (entry st)) ∧ Settled (first (entry st))
        ∧ RejoinLaw (first (entry st)) ∧ (first (entry st)).isolation.probation = none)
      ∧ (s (entry .live)).isolation.probation.isSome = true
      ∧ (beaconOf2 1 { Flags.clear with joining := true, parking := true }).wf = true
      ∧ scoredBy { entry .parked with score := 195 } (beaconOf2 1 Flags.clear) = 191 := by
  unfold Settled RejoinLaw; decide +kernel
theorem test_muted_premises :
    let e := { entry .muted with muteHold := some 0, ceasePending := true, muteReason := some .score }
    let s := withPeer (station .run) 2 e
    let cease : Queued Directive := { frame := .cease 2 .score, attempt := 1, committed := false }
    let other : Queued Directive := { frame := .readmit 2, attempt := 1, committed := false }
    Settled s ∧ RejoinLaw s ∧ MutedAsks e (beaconOf2 1 Flags.clear)
      ∧ MutedAsks e (beaconOf2 1 { Flags.clear with parking := true }) ∧ MutedAsks e (beaconOf2 1 rejoinFlags)
      ∧ ¬MutedAsks e (beaconOf2 1 { Flags.clear with isolated := true })
      ∧ ¬MutedAsks { e with muteHold := some 1 } (beaconOf2 1 Flags.clear)
      ∧ ceaseWaits 2 [other, cease] = true ∧ ceaseWaits 2 [other, other, other, other] = false := by
  unfold Settled RejoinLaw MutedAsks; decide +kernel

/-- A rejoining beacon whose only claim of level 7 is CEASED is clean; so is one with all flags clear below level 7. -/
theorem test_probation_premises :
    let p : Probation := { station := 2, origin := .lost, clean := 7 }
    let rejoining := { beaconOf2 1 rejoinFlags with ownLevel := 7, claims := [{ code := 3, level := 7 }] }
    Settled (onProbation 7) ∧ RejoinLaw (onProbation 7)
      ∧ (onProbation 7).isolation.queue = [2] ∧ (onProbation 7).isolation.suspended = false
      ∧ gapOf (entry .probation) (beaconOf2 1 Flags.clear) = 1 ∧ gapOf (entry .probation) (beaconOf2 0 Flags.clear) = 0
      ∧ ¬FailsProbation p (entry .probation) rejoining
      ∧ ¬FailsProbation { p with origin := .muted } (entry .probation) rejoining
      ∧ ¬FailsProbation p (entry .probation) (beaconOf2 1 Flags.clear)
      ∧ ¬ParksOnProbation p rejoining ∧ rejoining.wf = true := by
  unfold Settled RejoinLaw FailsProbation GivesSeven ParksOnProbation; decide +kernel
theorem test_probation_failure_premises :
    let p : Probation := { station := 2, origin := .lost, clean := 7 }
    let e := entry .probation
    FailsProbation p e (beaconOf2 2 Flags.clear)
      ∧ FailsProbation p e { beaconOf2 1 Flags.clear with ownLevel := 7 }
      ∧ FailsProbation p e { beaconOf2 1 rejoinFlags with claims := [{ code := 8, level := 7 }] }
      ∧ FailsProbation { p with origin := .muted } e (beaconOf2 1 { Flags.clear with isolated := true })
      ∧ FailsProbation p e (beaconOf2 1 { Flags.clear with joining := true })
      ∧ ¬ParksOnProbation p (beaconOf2 2 Flags.clear)
      ∧ ParksOnProbation p (beaconOf2 2 { Flags.clear with parking := true })
      ∧ ((onProbation 7).setIsolation { (onProbation 7).isolation with suspended := true }).isolation.suspended
          = true := by
  unfold FailsProbation GivesSeven ParksOnProbation; decide +kernel
theorem test_alert_premises :
    let s := withPeer (station .run) 2 (entry .live)
    Settled s ∧ (s.peer 2).state.trusted = true ∧ s.record 40 = none ∧ s.generalFull = false
      ∧ s.line.degraded = false
      ∧ adoptedFrom false 7 = some 6 ∧ adoptedFrom false 0 = none ∧ adoptedFrom true 0 = some 4
      ∧ Alert.wf { sender := 2, ownLevel := 7, claim := { code := 1, level := 7 } } = true := by
  unfold Settled; decide +kernel

/-- A record of PEER-POSTURE that a higher, a lower and an equal level meet, its condition holding or ended. -/
theorem test_posture_premises :
    let s := fun life : Life => withPeer (holding .run 40 4 life) 2 { entry .live with ownLevel := 5 }
    Settled (s .holds) ∧ Settled (s (.dwell 2)) ∧ (s .holds).line.degraded = false
      ∧ (s .holds).record 40 = some (recordOf 40 4 .holds true)
      ∧ (s (.dwell 2)).record 40 = some (recordOf 40 4 (.dwell 2) true)
      ∧ adoptedFrom ((s .holds).peer 2).flags.isolated 6 = some 6
      ∧ adoptedFrom ((s .holds).peer 2).flags.isolated 4 = some 4
      ∧ adoptedFrom ((s .holds).peer 2).flags.isolated 3 = some 3
      ∧ adoptedFrom ((s .holds).peer 2).flags.isolated ((s .holds).peer 2).ownLevel = some 5 := by
  unfold Settled; decide +kernel
theorem test_alert_by_state_premises :
    let s := fun st : EntryState => withPeer (station .run) 2 (entry st)
    let a : Level → Alert := fun l => { sender := 2, ownLevel := l, claim := { code := 3, level := 7 } }
    (∀ st ∈ [EntryState.lost, .absent, .parked], Settled (s st) ∧ ((s st).peer 2).state = st)
      ∧ Settled (onProbation 3) ∧ RejoinLaw (onProbation 3) ∧ (onProbation 3).isolation.queue = [2]
      ∧ AlertGivesSeven (entry .probation) (a 7) ∧ ¬AlertGivesSeven (entry .probation) (a 6)
      ∧ ¬AlertGivesSeven { entry .probation with flags := rejoinFlags } (a 7)
      ∧ AlertGivesSeven { entry .probation with flags := rejoinFlags }
          { a 7 with claim := { code := 8, level := 7 } } := by
  unfold Settled RejoinLaw AlertGivesSeven; decide +kernel
theorem test_posture_engine (life : Life) : EngineLaw (holding .run 40 4 life) := by
  refine ⟨⟨?_, ?_⟩, ?_, ?_, ?_, ?_, ?_, ?_⟩ <;>
    simp [holding, recordOf, Engine.initial, State.drivePins, State.setEngine, State.setPins, StackShape,
      TopLive, liveCodes, generalCount, isGeneral, Config.generalSlots, FrameOwned]
theorem test_directive_premises :
    let s := withPeer (station .run) 2 (entry .live)
    let u := s.setIsolation { Isolation.initial with own := .rejoining }
    Settled s ∧ s.line.degraded = false ∧ (s.peer 2).state.trusted = true ∧ s.isolation.own = .active
      ∧ s.record 3 = none ∧ quorumOf s = 1
      ∧ counted s ((ceaseAfter 2 .score s.isolation.cease).map CeasePlace.sender) = 1
      ∧ quorumOf (withPeer s 4 (entry .live)) = 2
      ∧ Settled u ∧ u.isolation.own = .rejoining
      ∧ PinsFollow (s.setIsolation { Isolation.initial with own := .isolated }).drivePins
      ∧ PinsFollow (withPeer (station .join) 2 (entry .live)).drivePins := by
  unfold Settled PinsFollow; decide +kernel
theorem test_rejoining_cease_premises :
    let s := (withPeer (holding .run 3 7 .holds) 2 (entry .live)).setIsolation
      { Isolation.initial with own := .rejoining, suspended := true }
    Settled s ∧ (s.record 3).isSome = true ∧ s.isolation.own = .rejoining
      ∧ (s.peer 2).state.trusted = true := by unfold Settled; decide +kernel
theorem test_probation_cease_premises :
    let s := withPeer (onProbation 3) 4 (entry .live)
    Settled s ∧ RejoinLaw s ∧ (s.peer 4).state.trusted = true ∧ s.isolation.queue = [2]
      ∧ (s.isolation.probation.map Probation.station) = some 2 ∧ s.line.degraded = false := by
  unfold Settled RejoinLaw; decide +kernel

/-- R141: of two peers lost at one own expiry the first already leaves the quorum met by the second's CEASE. -/
theorem test_quorum_at_each_loss :
    let lost := { entry .live with age := 5 }
    let s := (withPeer (withPeer (station .run) 2 lost) 4 lost).setIsolation
      { Isolation.initial with cease := [⟨4, 3, .score⟩] }
    s.config.lossLimit = 6
      ∧ expiryMeets s (fun t => decide (t.isolation.own = .isolated ∧ (t.record 3).isSome = true)) = true := by
  decide +kernel
theorem test_damage_premises :
    let s := (withPeer (station .run) 2 { entry .live with score := 167 }).setLine
      { LineInterface.initial with lineErrors := 63 }
    Settled s ∧ PinsFollow s ∧ s.generalFull = false ∧ s.line.degraded = false ∧ s.record 50 = none
      ∧ (s.peer 2).score < 168 ∧ s.record 53 = none ∧ (s.peer 2).state.trusted = true
      ∧ Settled (withPeer (station .run) 2 { entry .suspect with score := 168 })
      ∧ (station .run).record 34 = none
      ∧ roleMissing (s.setStart { s.start with missingHeld := true }).start.population = true := by
  unfold Settled PinsFollow; decide +kernel
theorem test_damage_on_probation_premises :
    Settled (onProbation 3) ∧ PinsFollow (onProbation 3) ∧ RejoinLaw (onProbation 3)
      ∧ (onProbation 3).generalFull = false ∧ (onProbation 3).isolation.queue = [2]
      ∧ ((onProbation 3).peer 2).state = .probation := by
  unfold Settled PinsFollow RejoinLaw; decide +kernel
/-- The four frames of a MUTED peer other than a beacon are counted and bring it the CEASE it is owed. -/
theorem test_muted_frame_premises :
    let s := withPeer (station .run) 2 { entry .muted with ceasePending := true, muteReason := some .score }
    Settled s ∧ PinsFollow s ∧ (s.peer 2).state = .muted
      ∧ ([Instr.alertReceived { sender := 2, ownLevel := 7, claim := { code := 1, level := 7 } },
          .ceaseReceived { sender := 2, target := 1, reason := .score },
          .readmitReceived { sender := 2, target := 1 }, .wakeFrameReceived 2].all fun c =>
            match exec c s with
            | .next t => decide ((t.peer 2).frames = 1 ∧ t.line.directives.length = 1)
            | _ => false) = true := by
  unfold Settled PinsFollow; decide +kernel
theorem test_good_frames :
    GoodFrameOf 2 (.alertReceived { sender := 2, ownLevel := 7, claim := { code := 1, level := 7 } })
      ∧ GoodFrameOf 2 (.ceaseReceived { sender := 2, target := 1, reason := .score })
      ∧ GoodFrameOf 2 (.readmitReceived { sender := 2, target := 1 }) ∧ GoodFrameOf 2 (.wakeFrameReceived 2) := by
  simp only [GoodFrameOf]; decide +kernel
theorem test_clash_frame_premises :
    let s := ((holding .run 54 6 .holds).setStart
      { (holding .run 54 6 .holds).start with missingHeld := true })
    Settled s ∧ PinsFollow s ∧ roleMissing s.start.population = s.start.missingHeld
      ∧ (s.record 54).isSome = true ∧ s.start.conflictHeld = false ∧ s.record 53 = none := by
  unfold Settled PinsFollow; decide +kernel
theorem test_stuck_premises :
    let s := fun c : StuckLine => (station .run).setStuck c
    Settled (s (.released 3)) ∧ (s .clear).line.stuck = .clear ∧ (s .stuck).line.stuck = .stuck
      ∧ PinsFollow (s (.released 3)) ∧ (s .clear).record 51 = none := by
  unfold Settled PinsFollow; decide +kernel
/-- R166: a line stuck in PARKING; the roles are held as they are and the quorum is not met. -/
theorem test_stuck_in_parking_premises :
    let p := parkWaiting .parking 1 0
    let s := p.setStart { p.start with missingHeld := true }
    s.station = .parking ∧ Settled s ∧ s.line.stuck = .clear ∧ s.record 51 = none ∧ s.generalFull = false
      ∧ roleMissing s.start.population = s.start.missingHeld
      ∧ roleConflict s.start.population = s.start.conflictHeld ∧ QuorumShort s
      ∧ nextMeets .lineStuck s (fun t => decide
          (t.station = .run ∧ t.line.parkingWaiting = none ∧ t.line.attempt = none
            ∧ (t.record 51).map Record.life = some .holds)) = true := by
  unfold Settled QuorumShort; decide +kernel
theorem test_round_trip_premises :
    (encodeRequest (.report 8 3 256 0 (some 0xFFFF))).isSome = true
    ∧ Frame.wf (.readmit { sender := 5, target := 0 }) = true := by decide +kernel

end Sys2Proof.Tests
end

section
/-! The values after a reset, and the millisecond of an idle queue. -/

namespace Sys2Proof.Machine

/-! ### Resets -/

/-- Start control after a reset by the number the straps give (R1, R2). -/
theorem StartControl.initial_eq (straps : Straps) (cause : Cause) :
    StartControl.initial straps cause =
      { station := if straps.number.val < 6 then .config else .hold
        straps := straps, everRun := false, discovery := 0
        population := (StartControl.initial straps cause).population
        missingHeld := false, conflictHeld := false, cause := (StartControl.initial straps cause).cause
        window := if straps.number.val < 6 then 200 else 0
        beaconTimer := none, parkArmed := false } := by
  by_cases h : straps.number.val < 6 <;> simp [StartControl.initial, Straps.station, h, Config.windowMs]

theorem StartControl.initial_cause (straps : Straps) (cause : Cause) :
    (StartControl.initial straps cause).cause = cause := by
  unfold StartControl.initial; split <;> rfl

/-- The population record after a reset holds the own role alone (R9). -/
theorem StartControl.initial_population (straps : Straps) (cause : Cause) (i : Station) :
    (StartControl.initial straps cause).population.get i =
      { role := if i.val = straps.number.val then some straps.role else none, clash := 0 } := by
  have empty : (Six.all ({ role := none, clash := 0 } : Place)).get i = { role := none, clash := 0 } := by
    fin_cases i <;> rfl
  by_cases h : straps.number.val < 6
  · by_cases hi : i.val = straps.number.val <;>
      simp [StartControl.initial, Straps.station, h, Six.get_set, Fin.ext_iff, hi, empty]
  · have hi : i.val ≠ straps.number.val := by omega
    simp [StartControl.initial, Straps.station, h, hi, empty]

/-- Every block but the module link after a reset (R12). -/
theorem ResetValues.afterReset (straps : Straps) (cause : Cause) (trips : BitVec 4) (pending : List Instr) :
    ResetValues straps (State.afterReset straps cause trips pending) := by
  refine ⟨StartControl.initial_eq straps cause, StartControl.initial_population straps cause, rfl, rfl,
    fun i => ?_, ?_, rfl, rfl, rfl, rfl, rfl⟩
  · fin_cases i <;> rfl
  · obtain ⟨number, role⟩ := straps
    cases role <;> rfl

/-- Settles O4: both resets leave `State.afterReset`, each with its own cause. -/
theorem resetsLeaveTheStatedValues : Obligations.ResetsLeaveTheStatedValues := fun _ _ =>
  ⟨⟨_, rfl, ResetValues.afterReset .., rfl, rfl, rfl, StartControl.initial_cause ..⟩,
    ⟨_, rfl, ResetValues.afterReset .., rfl, rfl, rfl, StartControl.initial_cause ..⟩⟩

theorem State.reset_peer (i : Station) : State.reset.peer i = PeerEntry.initial := by fin_cases i <;> rfl

/-- Settles O5: law by law, on the empty queues, the empty table and the absent entries of the reset state. -/
theorem resetIsInOrder : Obligations.ResetIsInOrder := by
  have pins : PinsFollow State.reset := by unfold PinsFollow; decide
  have envelope : EnvelopeLaw State.reset := by unfold EnvelopeLaw EnvelopeFits; decide
  have attempts : AttemptsFit State.reset := by
    simp [AttemptsFit, State.reset, State.afterReset, LineInterface.initial]
  have ownEntry : OwnEntryLaw State.reset :=
    ⟨State.reset_peer _, List.not_mem_nil, fun _ h => nomatch h⟩
  have selector : SelectorLaw State.reset := ⟨rfl, fun _ => rfl⟩
  have engine : EngineLaw State.reset := by
    simp [EngineLaw, State.reset, State.afterReset, Engine.initial, TableLaw, generalCount, StackShape, TopLive,
      liveCodes]
  have rejoin : RejoinLaw State.reset := by
    refine ⟨List.nodup_nil, (fun _ h => nomatch h), (fun _ h => nomatch h), fun i h => ?_⟩
    rw [State.reset_peer] at h; exact nomatch h
  have settled : Settled State.reset := ⟨by decide, .inl rfl⟩
  exact ⟨pins, Nat.zero_le _, attempts, envelope, ownEntry, fun i => by rw [State.reset_peer]; decide, selector,
    (fun h => nomatch h), engine, (fun _ h => nomatch h), rejoin, ⟨List.Pairwise.nil, fun _ h => nomatch h⟩, settled⟩

/-! ### An idle millisecond -/

/-- A millisecond in which the motoring rise timer does not end. -/
theorem State.tickRise_motoring (s : State) (h : ∀ n ∈ s.envelope.motoringTimer, 2 ≤ n) :
    s.tickRise .motoring =
      s.setEnvelope { s.envelope with motoringTimer := s.envelope.motoringTimer.map fun n => n - 1 } := by
  obtain hr | ⟨n, hr⟩ := Option.eq_none_or_eq_some s.envelope.motoringTimer
  · simp only [State.tickRise, State.riseLeft, hr, Option.map_none]
    rw [← hr]; rfl
  · have : ¬n ≤ 1 := by have := h n hr; omega
    simp [State.tickRise, State.riseLeft, State.setRise, hr, this]

/-- A millisecond in which the regenerative rise timer does not end. -/
theorem State.tickRise_regen (s : State) (h : ∀ n ∈ s.envelope.regenTimer, 2 ≤ n) :
    s.tickRise .regen =
      s.setEnvelope { s.envelope with regenTimer := s.envelope.regenTimer.map fun n => n - 1 } := by
  obtain hr | ⟨n, hr⟩ := Option.eq_none_or_eq_some s.envelope.regenTimer
  · simp only [State.tickRise, State.riseLeft, hr, Option.map_none]
    rw [← hr]; rfl
  · have : ¬n ≤ 1 := by have := h n hr; omega
    simp [State.tickRise, State.riseLeft, State.setRise, hr, this]

/-- A millisecond in which the supervision timer does not end. -/
theorem State.tickSupervision_of_running (s : State) (h : s.supervised = true → 2 ≤ s.supervision.count) :
    s.tickSupervision = s.setSupervision
      (if s.supervised then { s.supervision with count := s.supervision.count - 1 } else s.supervision) := by
  unfold State.tickSupervision
  split
  next hs => have : ¬s.supervision.count ≤ 1 := by have := h hs; omega
             rw [if_neg this]
  next => rfl

/-- A millisecond in which the release of a stuck line does not end. -/
theorem State.tickLine_of_running (s : State) (h : ∀ n, s.line.stuck = .released n → 2 ≤ n) :
    s.tickLine = s.setStuck (match s.line.stuck with | .released n => .released (n - 1) | x => x) := by
  unfold State.tickLine
  cases hs : s.line.stuck with
  | released n => have : ¬n ≤ 1 := by have := h n hs; omega
                  simp [this]
  | clear => show s = s.setStuck .clear; rw [← hs]; rfl
  | stuck => show s = s.setStuck .stuck; rw [← hs]; rfl

/-- A millisecond in which the beacon timer does not end. -/
theorem State.tickBeacon_of_running (s : State) (h : ∀ n ∈ s.start.beaconTimer, 2 ≤ n) :
    s.tickBeacon = s.setStart { s.start with beaconTimer := s.start.beaconTimer.map fun n => n - 1 } := by
  unfold State.tickBeacon
  cases hb : s.start.beaconTimer with
  | none => simp only [Option.map_none]; rw [← hb]; rfl
  | some n => have : ¬n ≤ 1 := by have := h n hb; omega
              simp [this]

/-- A millisecond in which the configuration window does not end. -/
theorem State.tickWindow_of_running (s : State) (h : s.station = .config → 2 ≤ s.start.window) :
    s.tickWindow = s.setStart
      { s.start with window := if s.station = .config then s.start.window - 1 else s.start.window } := by
  unfold State.tickWindow
  split
  next hc => have : ¬s.start.window ≤ 1 := by have := h hc; omega
             rw [if_neg this]
  next => rfl

/-- Settles O2: each of the six clocks counts its millisecond, and none of them touches another's timer. -/
theorem idleStepCountsOneMillisecond : Obligations.IdleStepCountsOneMillisecond := by
  intro s idle ⟨supervision, motoring, regen, stuck, beacon, window⟩
  have hstep : step s = .next s.tick := by unfold step; rw [idle]
  rw [hstep, State.tick, State.tickRise_motoring s motoring, State.tickRise_regen, State.tickSupervision_of_running,
    State.tickLine_of_running, State.tickBeacon_of_running, State.tickWindow_of_running]
  · rfl
  exacts [window, beacon, stuck, supervision, regen]

end Sys2Proof.Machine
end

section
/-! Requests that their station state takes: what the module link does around a request's own rule, and the requests
whose own rule leaves every input of the handover alone. -/

namespace Sys2Proof.Machine

/-! ### Handovers that find nothing to do -/

/-- The contactor sequence stays where CL, the drive condition and the station state stay, in JOIN too: there it is
not riding (R116). -/
theorem State.handToContactor_of_still {s0 s : State} (hc : s.engine.cl = s0.engine.cl)
    (hd : s.driveCondition = s0.driveCondition) (hst : s.station = s0.station) : s0.handToContactor s = s := by
  by_cases hj : s0.station = .join
  · simp [State.handToContactor, hst, hj, StationState.riding]
  · exact handToContactor_of_same hc hd hj

/-- A station that does not ride leaves the contactor sequence alone (R116). -/
theorem State.handToContactor_of_not_riding {s0 s : State} (h : s.station.riding = false) :
    s0.handToContactor s = s := by
  simp [State.handToContactor, h]

/-- A recomputation of an envelope that fits its inputs changes nothing (R129 to R131). -/
theorem EnvelopeFits.retarget_eq {x : EnvelopeInputs} {e : Envelope} (h : EnvelopeFits x e) :
    e.retarget x.motoringTarget x.regenTarget = e := by
  obtain ⟨htm, htr, hom, hor, hmt, hrt⟩ := h
  have ramp : ∀ (target out : Nat) (timer : Option Nat), (timer.isSome ↔ out < target) →
      rampTimer target out timer = timer := by
    intro target out timer ht
    unfold rampTimer
    split
    next hl => obtain ⟨left, rfl⟩ := Option.isSome_iff_exists.1 (ht.2 hl); rfl
    next hn => exact (Option.not_isSome_iff_eq_none.1 (mt ht.1 hn)).symm
  rw [← htm, ← htr]
  simp [Envelope.retarget, min_eq_left hom, min_eq_left hor, ramp _ _ _ hmt, ramp _ _ _ hrt]

theorem State.handToEnvelope_of_fits {s0 s : State} (h : EnvelopeLaw s) : s0.handToEnvelope s = s := by
  unfold State.handToEnvelope State.recompute
  split
  · rfl
  · rw [EnvelopeFits.retarget_eq h]; rfl

/-- Out of RUN both targets are 0, whatever the other inputs (R122). -/
theorem EnvelopeLaw.of_not_running {s t : State} (h : EnvelopeLaw s) (hs : s.station ≠ .run)
    (ht : t.station ≠ .run) (he : t.envelope = s.envelope) : EnvelopeLaw t := by
  simpa [EnvelopeLaw, EnvelopeFits, EnvelopeInputs.motoringTarget, EnvelopeInputs.regenTarget,
    State.envelopeInputs, hs, ht, he] using h

/-- A handover that finds CL, the drive condition, the station state and the envelope's inputs as they were moves the
pins alone, and not even these where they show the same. -/
theorem State.handOver_of_quiet {s0 s : State} (hc : s.engine.cl = s0.engine.cl)
    (hd : s.driveCondition = s0.driveCondition) (hst : s.station = s0.station)
    (hi : s.envelopeInputs = s0.envelopeInputs) : s0.handOver s = s.drivePins := by
  rw [handOver, handToContactor_of_still hc hd hst, followSuspension_of_same hc, handToEnvelope_of_same hi]

/-- A handover that finds all of these as they were, and the pins following, changes nothing. -/
theorem State.handOver_of_follow {s0 s : State} (hc : s.engine.cl = s0.engine.cl)
    (hd : s.driveCondition = s0.driveCondition) (hst : s.station = s0.station)
    (hi : s.envelopeInputs = s0.envelopeInputs) (hp : PinsFollow s) : s0.handOver s = s := by
  rw [handOver_of_quiet hc hd hst hi, drivePins_of_follow hp]

/-! ### The module link around a request -/

/-- The state in which the own rule of a request works: a response is clocked out and both acceptors are IDLE. -/
def State.opened (s : State) : State :=
  { s with
    start := { s.start with parkArmed := false }
    link := { responses := s.link.responses.tail, restartArmed := false, out := some s.nextOut } }

theorem State.clockOut_eq (s : State) :
    s.clockOut = s.setLink
      { responses := s.link.responses.tail, restartArmed := s.link.restartArmed, out := some s.nextOut } := by
  unfold clockOut nextOut
  split
  next h => simp [h]
  next h => simp [h]

/-- A request that has no acceptor of its own is taken with both acceptors at IDLE (R162, R163). -/
theorem State.takeRequest_of_opened {s : State} {q : Request} (effect : State → Answer) (h : Ready q s)
    (hr : q ≠ .restart) (he : q ≠ .parkEnter) (ha : q ≠ .parkArm) :
    s.takeRequest q effect = s.handOver (deliver (effect s.opened)) := by
  rw [takeRequest_of_ready q effect h]
  simp only [disarmRestart, parkRule, hr, he, ha, false_and, or_self, if_false, clockOut_eq]
  rfl

/-- The answers of requests that find nothing to do and hand nothing over. -/
theorem State.handOver_answered {s : State} (h : PinsFollow s) (r : Response) :
    s.handOver (s.answered r) = s.answered r := handOver_of_follow rfl rfl rfl rfl h

/-- A request whose own rule answers `r` and leaves the state as it is. -/
theorem State.takeRequest_answered {s : State} {q : Request} {effect : State → Answer} {r : Response}
    (h : Ready q s) (hr : q ≠ .restart) (he : q ≠ .parkEnter) (ha : q ≠ .parkArm) (hp : PinsFollow s)
    (heff : effect s.opened = (s.opened, some r)) : s.takeRequest q effect = s.answered r := by
  rw [takeRequest_of_opened effect h hr he ha, heff]
  exact handOver_answered hp r

/-! ### Unassigned identifiers -/

theorem clampParameter_of_unassigned {id : Nat} (v : Nat) (h : 15 ≤ id) : clampParameter id v = none := by
  obtain ⟨n, rfl⟩ := Nat.exists_eq_add_of_le' h
  rfl

theorem State.publishable_none {s : State} {id : Nat}
    (h : ∀ q ∈ s.start.straps.role.quantities, quantityOf id ≠ some q) : s.publishable id = none := by
  unfold publishable
  split
  next q hq =>
    have : q ∉ s.start.straps.role.quantities := fun hm => h q hm hq
    simp [this]
  next => rfl

/-- Settles O7: neither own rule finds a place to store in. -/
theorem unassignedIdentifiersStoreNothing : Obligations.UnassignedIdentifiersStoreNothing := by
  intro id value s pins
  refine ⟨fun ready hid => ?_, fun ready hq => ?_⟩
  · refine congrArg Host.Outcome.next (State.takeRequest_answered ready nofun nofun nofun pins ?_)
    simp only [State.setupRule, clampParameter_of_unassigned _ hid]; rfl
  · have none : s.opened.publishable id.toNat = none := State.publishable_none hq
    refine congrArg Host.Outcome.next (State.takeRequest_answered ready nofun nofun nofun pins ?_)
    simp only [State.publishRule, none]; rfl

/-! ### RESTART -/

theorem tokenOf_eq_first {b : BitVec 8} : tokenOf b = .first ↔ b = 1 := by
  unfold tokenOf; repeat' split
  all_goals simp_all

theorem tokenOf_eq_second {b : BitVec 8} : tokenOf b = .second ↔ b = 2 := by
  unfold tokenOf
  split
  next h => simp [h]
  next => split <;> simp_all

/-- The states that take a RESTART (R162). -/
theorem ready_restart {s : State} (hst : s.station = .config ∨ s.station = .join ∨ s.station = .run)
    (hf : s.supervision.firstToken = false) : Ready .restart s := by
  refine ⟨?_, ?_, hf⟩ <;> rcases hst with h | h | h <;> simp [h, Request.takenIn]

/-- RESTART by its own rule, which leaves the restart acceptor ARMED or not. -/
theorem State.takeRequest_restart {s : State} (token : BitVec 8) (h : Ready .restart s) (hp : PinsFollow s)
    {r : Response} {armed : Bool}
    (heff : ∀ t : State, t.link.restartArmed = s.link.restartArmed →
      t.restartRule token = (t.armRestart armed, some r)) :
    s.takeRequest .restart (fun t => t.restartRule token)
      = { s.answered r with link := s.linkAfter r armed } := by
  rw [takeRequest_of_ready _ _ h, clockOut_eq]
  rw [heff]
  · show s.handOver { s.answered r with link := s.linkAfter r armed } = _
    exact handOver_of_follow rfl rfl rfl rfl hp
  · rfl

/-- Settles O17: SECOND at an ARMED acceptor is the one RESTART that resets; the others follow `restartRule`. -/
theorem restartNeedsBothTokens : Obligations.RestartNeedsBothTokens := by
  intro token straps s pins hst
  have accepted : s.restartAccepted token = true ↔ token = 2 ∧ s.link.restartArmed = true := by
    have taken : Request.restart.takenIn s.station = true := by
      rcases hst with h | h | h <;> simp [h, Request.takenIn]
    simp [State.restartAccepted, taken, tokenOf_eq_second]
  have refused : ¬(token = 2 ∧ s.link.restartArmed = true) →
      exec (.restart token straps) s = .next (s.takeRequest .restart fun t => t.restartRule token) :=
    fun h => if_neg (mt accepted.1 h)
  refine ⟨fun h => ?_, fun hf h => ?_, fun hf h2 h1 => ?_⟩
  · refine ⟨s.clockOut.restartReset straps, if_pos (accepted.2 h), ?_⟩
    rw [State.clockOut_eq]
    exact ⟨ResetValues.afterReset straps { s.start.cause with restart := true } s.trips s.pending, rfl, rfl,
      StartControl.initial_cause .., rfl⟩
  · rw [refused (by simp [h.2]), State.takeRequest_restart token (ready_restart hst hf) pins (armed := true)]
    intro t ht
    simp [State.restartRule, tokenOf_eq_first.2 h.1, ht, h.2]; rfl
  · rw [refused h2, State.takeRequest_restart token (ready_restart hst hf) pins (armed := false)]
    · rfl
    · intro t ht
      unfold State.restartRule
      split
      next hfirst harm => exact absurd ⟨tokenOf_eq_first.1 hfirst, ht ▸ harm⟩ h1
      next => rfl

end Sys2Proof.Machine
end

section
/-! The reads: every payload the part packs holds the fields that the statements list. -/

namespace Sys2Proof.Machine

/-! ### Two lists of fields of one payload -/

/-- Two lists of fields take the same width and hold the same number. -/
def SameFields (a b : List (Nat × Nat)) : Prop := packWidth a = packWidth b ∧ packNat a = packNat b

theorem SameFields.refl (a : List (Nat × Nat)) : SameFields a a := ⟨rfl, rfl⟩

theorem packNat_append (a b : List (Nat × Nat)) : packNat (a ++ b) = packNat a * 2 ^ packWidth b + packNat b := by
  rw [packNat, List.foldl_append]; exact packNat_from b _

theorem SameFields.append {a b c d : List (Nat × Nat)} (h : SameFields a b) (h' : SameFields c d) :
    SameFields (a ++ c) (b ++ d) := by
  obtain ⟨hw, hn⟩ := h
  obtain ⟨hw', hn'⟩ := h'
  exact ⟨by simp [hw, hw'], by simp [packNat_append, hn, hw', hn']⟩

theorem SameFields.cons {f g : Nat × Nat} {a b : List (Nat × Nat)} (hf : f = g) (h : SameFields a b) :
    SameFields (f :: a) (g :: b) := SameFields.append (a := [f]) (b := [g]) (hf ▸ .refl _) h

/-- Fields that fit the 48 bits are packed where the statements place them. -/
theorem SameFields.pack_eq {a b : List (Nat × Nat)} (h : SameFields a b) (fits : packWidth b ≤ 48) :
    pack a = payloadOf b := by
  rw [← pack_of_fits b fits, pack, pack, h.1, h.2]

/-! ### Single fields -/

theorem flagField_eq (b : Bool) : flagField b = bitOf b := by cases b <;> rfl
theorem bandField_eq (b : Band) : (2, bandBits b) = codedIn 2 [Band.walk, .mid, .fast, .unknown] b := by
  cases b <;> rfl
theorem postureBits_eq (p : Posture) : (3, p.bits) = codedIn 3 postureOrder p := by cases p <;> rfl
theorem entryStateField_eq (x : EntryState) :
    (3, entryStateBits x)
      = codedIn 3 [EntryState.absent, .live, .suspect, .lost, .parked, .muted, .probation] x := by
  cases x <;> rfl
theorem roleField_eq (r : Option Role) : roleField r = codedOr 3 [Role.pack, .drive, .cockpit, .charger] r := by
  rcases r with _ | r
  · rfl
  · cases r <;> rfl
theorem periodField_eq (p : Option Period) : periodField p = codedOr 2 [Period.ms5, .ms10, .ms20] p := by
  rcases p with _ | p
  · rfl
  · cases p <;> rfl
theorem postureField_eq (p : Option Posture) : postureField p = codedOr 3 postureOrder p := by
  rcases p with _ | p
  · rfl
  · cases p <;> rfl
theorem muteReasonField_eq (r : Option MuteReason) :
    (2, muteReasonBits r) = codedIn 2 [none, some MuteReason.score, some .selfContained] r := by
  rcases r with _ | r
  · rfl
  · cases r <;> rfl
theorem isolationField_eq (x : IsolationState) :
    (2, isolationBits x) = codedIn 2 [IsolationState.active, .isolated, .rejoining] x := by cases x <;> rfl

@[simp] theorem bitOf_width (b : Bool) : (bitOf b).1 = 1 := rfl
@[simp] theorem codedIn_width {α : Type} [BEq α] (w : Nat) (l : List α) (x : α) : (codedIn w l x).1 = w := rfl
@[simp] theorem codedOr_width {α : Type} [BEq α] (w : Nat) (l : List α) (x : Option α) : (codedOr w l x).1 = w := by
  cases x <;> rfl

/-! ### READ-STACK -/

theorem frameFields_same (s : State) (n : Nat) :
    SameFields (frameFields s.engine.stack.reverse[n]?) (frameRead s n) := by
  unfold frameRead
  cases s.engine.stack.reverse[n]? with
  | none => exact ⟨rfl, rfl⟩
  | some f => simp only [frameFields, flagField_eq]; exact .refl _

theorem frameRead_width (s : State) (n : Nat) : packWidth (frameRead s n) = 13 := by
  unfold frameRead; split <;> rfl

theorem stackPayload_eq (s : State) (part : Nat) :
    s.stackPayload part = (stackRead s part).map payloadOf := by
  match part with
  | 0 =>
    refine congrArg some (SameFields.pack_eq ?_ (by simp))
    rw [postureBits_eq, List.length_reverse]; exact .refl _
  | 1 | 2 =>
    exact congrArg some ((((frameFields_same s _).append (frameFields_same s _)).append (frameFields_same s _)).pack_eq
      (by simp [frameRead_width]))
  | 3 => exact congrArg some ((frameFields_same s _).pack_eq (by simp [frameRead_width]))
  | n + 4 => rfl

/-! ### READ-VIEW of a peer -/

/-- The fields of one place of the claims of a peer. -/
def claimRead (c : Option Claim) : List (Nat × Nat) :=
  match c with
  | some c => [(6, c.code), (3, c.level.val)]
  | none => [(6, 0), (3, 0)]

theorem claimFields_same (c : Option Claim) : SameFields (claimFields c) (claimRead c) := by
  cases c <;> exact ⟨rfl, rfl⟩

theorem claimRead_width (c : Option Claim) : packWidth (claimRead c) = 9 := by cases c <;> rfl

theorem publishedFields_eq (p : Published) :
    publishedFields p = (carriedBy p).flatMap fun x => [bitOf x.2.valid, (widthOf x.1, x.2.value)] := by
  cases p <;> simp [publishedFields, valuedFields, carriedBy, flagField_eq, Quantity.width, widthOf]

theorem probationOf_eq (s : State) (i : Station) :
    s.probationOf i = s.isolation.probation.filter fun p => decide (p.station = i) := by
  unfold State.probationOf
  cases s.isolation.probation with
  | none => rfl
  | some p => by_cases h : p.station = i <;> simp [Option.filter, h]

theorem peerPayload_eq (s : State) (i : Station) (part : Nat) :
    s.peerPayload i part = (peerRead s i part).map payloadOf := by
  match part with
  | 0 =>
    refine congrArg some (SameFields.pack_eq ?_ ?_)
    · rw [entryStateField_eq, roleField_eq, periodField_eq, postureField_eq, muteReasonField_eq, flagsFields]
      simp only [flagField_eq]
      exact .refl _
    · simp
  | 1 =>
    refine congrArg some (SameFields.pack_eq ?_ ?_) <;>
      cases h : s.isolation.probation.filter fun p => decide (p.station = i) with
      | none => simp [probationOf_eq, h, probationOriginBits, SameFields]
      | some p => cases ho : p.origin <;> simp [probationOf_eq, h, probationOriginBits, ho, SameFields]
  | 2 =>
    have places : SameFields
        (claimFields (s.peer i).claims[0]? ++ claimFields (s.peer i).claims[1]? ++ claimFields (s.peer i).claims[2]?
          ++ claimFields (s.peer i).claims[3]?)
        ([0, 1, 2, 3].flatMap fun n : Nat => claimRead (s.peer i).claims[n]?) := by
      simpa using (((claimFields_same _).append (claimFields_same _)).append (claimFields_same _)).append
        (claimFields_same (s.peer i).claims[3]?)
    exact congrArg some (places.pack_eq (by simp [claimRead_width]))
  | 3 =>
    refine congrArg some ?_
    cases (s.peer i).published with
    | none => rfl
    | some p =>
      refine SameFields.pack_eq (publishedFields_eq p ▸ .refl _) ?_
      cases p <;> simp [carriedBy, bitOf, widthOf]
  | n + 4 => rfl

/-! ### READ-VIEW of the own number -/

theorem servedFields_same (x : Option Served) : SameFields (servedFields x) (servedRead x) := by
  rcases x with _ | ⟨value, source, rank⟩
  · exact ⟨rfl, rfl⟩
  · cases source <;> cases rank <;> exact ⟨rfl, rfl⟩

theorem servedRead_width (x : Option Served) : packWidth (servedRead x) = 17 := by cases x <;> rfl

theorem ownValueFields_same (s : State) (n : Nat) :
    SameFields (ownValueFields s.selector.own[n]?) (ownValueRead s n) := by
  unfold ownValueRead
  cases s.selector.own[n]? with
  | none => exact ⟨rfl, rfl⟩
  | some v => simp only [ownValueFields, flagField_eq]; exact .refl _

theorem ownValueRead_width (s : State) (n : Nat) : packWidth (ownValueRead s n) = 15 := by
  unfold ownValueRead; split <;> rfl

/-- Five places of a list packed by `f` hold the fields `g` of the five places. -/
theorem fivePlaces_same {α : Type} (f g : Option α → List (Nat × Nat)) (l : List α)
    (h : ∀ x, SameFields (f x) (g x)) :
    SameFields (fivePlaces f l) ([0, 1, 2, 3, 4].flatMap fun n => g l[n]?) := by
  simpa [fivePlaces] using ((((h _).append (h _)).append (h _)).append (h _)).append (h l[4]?)

/-- The fields of one place of the cease record. -/
def ceaseRead (x : Option CeasePlace) : List (Nat × Nat) :=
  match x with
  | some p => [(3, p.sender.val), (4, p.age), codedIn 1 [MuteReason.score, .selfContained] p.reason]
  | none => [(3, 0), (4, 0), (1, 0)]

theorem ceaseFields_same (x : Option CeasePlace) : SameFields (ceasePlaceFields x) (ceaseRead x) := by
  rcases x with _ | ⟨sender, age, reason⟩
  · exact ⟨rfl, rfl⟩
  · cases reason <;> exact ⟨rfl, rfl⟩

theorem ceaseRead_width (x : Option CeasePlace) : packWidth (ceaseRead x) = 8 := by cases x <;> rfl

/-- The fields of one place of the readmit record. -/
def readmitRead (x : Option ReadmitPlace) : List (Nat × Nat) :=
  match x with
  | some p => [(3, p.sender.val), (4, p.age)]
  | none => [(3, 0), (4, 0)]

theorem readmitFields_same (x : Option ReadmitPlace) : SameFields (readmitPlaceFields x) (readmitRead x) := by
  cases x <;> exact ⟨rfl, rfl⟩

theorem readmitRead_width (x : Option ReadmitPlace) : packWidth (readmitRead x) = 7 := by cases x <;> rfl

theorem stationFields_eq (x : Option Station) : stationFields x = [(3, (x.map Fin.val).getD 0)] := by
  cases x <;> rfl

/-- The fields of the probation record. -/
def probationRead (x : Option Probation) : List (Nat × Nat) :=
  match x with
  | some p => [bitOf true, (3, p.station.val), codedIn 1 [Origin.muted, .lost] p.origin, (4, p.clean)]
  | none => [bitOf false, (3, 0), (1, 0), (4, 0)]

theorem probationFields_same (x : Option Probation) : SameFields (probationFields x) (probationRead x) := by
  rcases x with _ | ⟨station, origin, clean⟩
  · exact ⟨rfl, rfl⟩
  · cases origin <;> exact ⟨rfl, rfl⟩

theorem probationRead_width (x : Option Probation) : packWidth (probationRead x) = 9 := by cases x <;> rfl

/-- Fields hold a number of no more bits than their widths. -/
theorem packNat_lt (fields : List (Nat × Nat)) : packNat fields < 2 ^ packWidth fields := by
  induction fields with
  | nil => simp
  | cons f rest ih =>
    have hf : f.2 % 2 ^ f.1 + 1 ≤ 2 ^ f.1 := Nat.mod_lt _ (Nat.two_pow_pos _)
    calc packNat (f :: rest) = f.2 % 2 ^ f.1 * 2 ^ packWidth rest + packNat rest := packNat_cons f rest
      _ < (f.2 % 2 ^ f.1 + 1) * 2 ^ packWidth rest := by rw [Nat.add_mul]; omega
      _ ≤ 2 ^ f.1 * 2 ^ packWidth rest := Nat.mul_le_mul_right _ hf
      _ = 2 ^ packWidth (f :: rest) := by rw [packWidth_cons, Nat.pow_add]

/-- A number of one field of the same width as a list of fields that hold it. -/
theorem sameFields_single (w : Nat) (fields : List (Nat × Nat)) (hw : packWidth fields = w) :
    SameFields [(w, packNat fields)] fields := by
  have hlt := packNat_lt fields
  rw [hw] at hlt
  exact ⟨by simp [hw], by simp [Nat.mod_eq_of_lt hlt]⟩

theorem isolationPayload_eq (s : State) : some s.isolationPayload = (ownRead s 6).map payloadOf := by
  refine congrArg some (SameFields.pack_eq (b := _ ++ probationRead s.isolation.probation ++ _) ?_ ?_)
  · refine (SameFields.append (.append ?_ ?_) (probationFields_same _)).append ?_
    · rw [isolationField_eq]; simp only [flagField_eq]; exact .refl _
    · simp only [fivePlaces, stationFields_eq]; exact .refl _
    · rw [stationSet_marks]; exact sameFields_single 6 _ (by simp)
  · simp [probationRead_width]

theorem ownPayload_eq (s : State) (part : Nat) : s.ownPayload part = (ownRead s part).map payloadOf := by
  match part with
  | 0 | 1 | 2 | 3 =>
    exact congrArg some (((servedFields_same _).append (servedFields_same _)).pack_eq (by simp [servedRead_width]))
  | 4 | 5 =>
    exact congrArg some ((((ownValueFields_same s _).append (ownValueFields_same s _)).append
      (ownValueFields_same s _)).pack_eq (by simp [ownValueRead_width]))
  | 6 => exact isolationPayload_eq s
  | 7 =>
    exact congrArg some (SameFields.pack_eq
      (b := (3, _) :: [0, 1, 2, 3, 4].flatMap fun n : Nat => ceaseRead s.isolation.cease[n]?)
      (.cons rfl (fivePlaces_same _ _ _ ceaseFields_same)) (by simp [ceaseRead_width]))
  | 8 =>
    exact congrArg some (SameFields.pack_eq
      (b := (3, _) :: [0, 1, 2, 3, 4].flatMap fun n : Nat => readmitRead s.isolation.readmit[n]?)
      (.cons rfl (fivePlaces_same _ _ _ readmitFields_same)) (by simp [readmitRead_width]))
  | n + 9 => rfl

theorem viewPayload_eq (s : State) (station part : BitVec 8) :
    s.viewPayload station part = (viewRead s station part).map payloadOf := by
  unfold State.viewPayload viewRead stationOf
  by_cases h : station.toNat < 6
  · simp only [h, dif_pos]
    split
    · exact ownPayload_eq s _
    · exact peerPayload_eq s _ _
  · simp [h]

/-! ### The answers -/

theorem envelopePayload_eq (s : State) : s.envelopePayload = payloadOf (envelopeRead s) := by
  refine SameFields.pack_eq ?_ (by simp [envelopeRead])
  rw [bandField_eq, postureBits_eq]; exact .refl _

theorem causePayload_eq (c : Cause) : causePayload c = payloadOf (causeRead c) := by
  obtain ⟨powerOn, pin, restart⟩ := c
  revert powerOn pin restart
  decide

/-- A read answers what the statements list, once its payload holds those fields. -/
theorem State.readAnswer_eq (s : State) (q : Request) (fields : Option (List (Nat × Nat))) :
    s.readAnswer q (fields.map payloadOf) = (s, some (readAnswered q.code fields)) := by
  cases fields <;> rfl

/-- READ-ENVELOPE moves ATTN alone (R115, R132). -/
theorem State.handOver_envelopeRead {s : State} (hp : PinsFollow s) (r : Response) :
    s.handOver (s.answered r).markEnvelopeRead =
      { s.answered r with
        envelope := { s.envelope with changed := false }
        pins := { s.pins with attn := s.attnFollows && s.anyUnread } } := by
  have quiet : s.handOver (s.answered r).markEnvelopeRead = (s.answered r).markEnvelopeRead.drivePins :=
    handOver_of_quiet rfl rfl rfl rfl
  have pins : (s.answered r).markEnvelopeRead.outputs = { s.pins with attn := s.attnFollows && s.anyUnread } := by
    rw [show s.pins = s.outputs from hp]
    show { s.outputs with attn := s.attnFollows && (s.anyUnread || false) } = _
    rw [Bool.or_false]
  rw [quiet, drivePins, pins]; rfl

/-- Settles O13: each read answers its packed payload, which holds the listed fields, and hands nothing over. -/
theorem readsReturnAndClearWhatTheirRulesSay : Obligations.ReadsReturnAndClearWhatTheirRulesSay := by
  intro station part s pins
  refine ⟨fun h => ?_, fun h => ?_, fun h => ?_, fun h => ?_, fun h => ?_⟩ <;> refine congrArg Host.Outcome.next ?_
  · refine State.takeRequest_answered h nofun nofun nofun pins ?_
    rw [viewPayload_eq]; exact State.readAnswer_eq ..
  · refine State.takeRequest_answered h nofun nofun nofun pins ?_
    rw [stackPayload_eq]; exact State.readAnswer_eq ..
  · refine State.takeRequest_answered h nofun nofun nofun pins ?_
    rw [causePayload_eq]; rfl
  · rw [State.takeRequest_of_opened _ h nofun nofun nofun, State.readEnvelopeRule, envelopePayload_eq]
    exact State.handOver_envelopeRead pins _
  · rw [State.takeRequest_of_opened _ h nofun nofun nofun]
    exact State.handOver_of_follow rfl rfl rfl rfl pins

end Sys2Proof.Machine
end

section
/-! The fault table read by code: what each operation of the containment engine leaves of every record, apart from the
taken marks, and what it leaves alone outside table, stack and alert queue. -/

namespace Sys2Proof.Machine

/-! ### Looking up a code -/

theorem findRecord_nil (c : Nat) : findRecord c [] = none := rfl

theorem findRecord_cons (c : Nat) (x : Record) (l : List Record) :
    findRecord c (x :: l) = if x.code = c then some x else findRecord c l := by
  by_cases h : x.code = c <;> simp [findRecord, h]

theorem findRecord_insertRecord {r : Record} {l : List Record} (h : findRecord r.code l = none) (c : Nat) :
    findRecord c (insertRecord r l) = if c = r.code then some r else findRecord c l := by
  induction l with
  | nil =>
    rw [insertRecord, findRecord_cons]
    by_cases hc : c = r.code
    · rw [if_pos hc.symm, if_pos hc]
    · rw [if_neg (Ne.symm hc), if_neg hc]
  | cons x l ih =>
    have hx : x.code ≠ r.code := findRecord_none h x (by simp)
    rw [findRecord_cons, if_neg hx] at h
    unfold insertRecord
    split
    · rw [findRecord_cons]
      by_cases hc : c = r.code
      · rw [if_pos hc.symm, if_pos hc]
      · rw [if_neg (Ne.symm hc), if_neg hc]
    · rw [findRecord_cons, ih h, findRecord_cons]
      by_cases hxc : x.code = c
      · rw [if_pos hxc, if_pos hxc, if_neg (fun hc => hx (hxc.trans hc))]
      · rw [if_neg hxc, if_neg hxc]

theorem findRecord_mapRecord (c d : Nat) {g : Record → Record} (hg : ∀ r, (g r).code = r.code) (l : List Record) :
    findRecord d (mapRecord c g l) = if d = c then (findRecord d l).map g else findRecord d l := by
  induction l with
  | nil => simp [mapRecord, findRecord_nil]
  | cons x l ih =>
    have code : (if x.code = c then g x else x).code = x.code := by split <;> simp [hg]
    have cons : mapRecord c g (x :: l) = (if x.code = c then g x else x) :: mapRecord c g l := rfl
    rw [cons, findRecord_cons, code, ih, findRecord_cons]
    by_cases hx : x.code = d
    · subst hx; by_cases hc : x.code = c <;> simp [hc]
    · simp [hx]

theorem findRecord_eraseRecord (c d : Nat) (l : List Record) :
    findRecord d (eraseRecord c l) = if d = c then none else findRecord d l := by
  induction l with
  | nil => simp [eraseRecord, findRecord_nil]
  | cons x l ih =>
    by_cases hx : x.code = c
    · have cons : eraseRecord c (x :: l) = eraseRecord c l := List.filter_cons_of_neg (by simpa using hx)
      rw [cons, ih, findRecord_cons]
      split
      next => rfl
      next hd => rw [if_neg (fun h => hd (h.symm.trans hx))]
    · have cons : eraseRecord c (x :: l) = x :: eraseRecord c l := List.filter_cons_of_pos (by simpa using hx)
      rw [cons, findRecord_cons, ih, findRecord_cons]
      by_cases hxd : x.code = d
      · rw [if_pos hxd, if_pos hxd, if_neg (fun h => hx (hxd.trans h))]
      · rw [if_neg hxd, if_neg hxd]

/-! ### General slots in use -/

theorem generalCount_mapRecord (c : Nat) {g : Record → Record} (hg : ∀ r, (g r).code = r.code) (l : List Record) :
    generalCount (mapRecord c g l) = generalCount l := by
  rw [generalCount_eq, generalCount_eq, map_code_mapRecord c hg]

theorem generalCount_eraseRecord_of_local {c : Nat} (h : isGeneral c = false) (l : List Record) :
    generalCount (eraseRecord c l) = generalCount l := by
  unfold generalCount eraseRecord
  rw [List.filter_filter]
  refine congrArg List.length (List.filter_congr fun x _ => ?_)
  by_cases hx : x.code = c <;> simp [hx, h]

/-- Without its one record of a general code the table has one general slot more. -/
theorem TableLaw.generalCount_erase {l : List Record} (h : TableLaw l) {r : Record} {c : Nat}
    (hr : findRecord c l = some r) (hc : isGeneral c = true) :
    generalCount (eraseRecord c l) + 1 = generalCount l := by
  obtain ⟨hm, rfl⟩ := findRecord_some hr
  have nodup : (l.map Record.code).Nodup := h.1.imp fun hlt => Nat.ne_of_lt hlt
  clear h hr
  induction l with
  | nil => simp at hm
  | cons x l ih =>
    obtain ⟨hx, hl⟩ := List.nodup_cons.1 nodup
    by_cases hxr : x.code = r.code
    · have rest : eraseRecord r.code l = l := List.filter_eq_self.2 fun y hy => by
        have : y.code ≠ r.code := fun he => hx (List.mem_map.2 ⟨y, hy, he.trans hxr.symm⟩)
        simpa using this
      have cut : eraseRecord r.code (x :: l) = l := by
        rw [← rest]; simp [eraseRecord, hxr]
      have gx : isGeneral x.code = true := hxr ▸ hc
      rw [cut]; simp [generalCount, gx]
    · have hm' : r ∈ l := by
        rcases List.mem_cons.1 hm with rfl | hm
        · exact absurd rfl hxr
        · exact hm
      have ih := ih hm' hl
      have cut : eraseRecord r.code (x :: l) = x :: eraseRecord r.code l := by simp [eraseRecord, hxr]
      have count : ∀ m, generalCount (x :: m) = generalCount m + if isGeneral x.code then 1 else 0 := fun m => by
        unfold generalCount; rw [List.filter_cons]; split <;> simp
      rw [cut, count, count]; omega

/-! ### Work of the containment engine -/

/-- The alert queue of the held frames changed. -/
def HeldFrames.onAlerts (g : List (Queued Alert) → List (Queued Alert)) (h : HeldFrames) : HeldFrames :=
  { h with alerts := g h.alerts }

/-- The engine replaced and alerts given. -/
def State.worked (s : State) (e : Engine) (g : List (Queued Alert) → List (Queued Alert)) : State :=
  (s.setEngine e).hold (HeldFrames.onAlerts g)

/-- From `s` to `t` the containment engine has worked on the table and the stack and given alerts: nothing else has
changed, and the table's law, if it held, holds. -/
def EngineStep (s t : State) : Prop :=
  ∃ e g, t = s.worked e g ∧ e.beaconCount = s.engine.beaconCount ∧ e.contactor = s.engine.contactor
    ∧ e.releaseCount = s.engine.releaseCount ∧ (TableLaw s.engine.records → TableLaw e.records)

theorem LineInterface.hold_hold (l : LineInterface) (f g : HeldFrames → HeldFrames) :
    (l.hold f).hold g = l.hold (g ∘ f) := by
  simp only [LineInterface.hold, Option.map_map]; rfl

theorem LineInterface.hold_id (l : LineInterface) : l.hold id = l := by
  simp [LineInterface.hold]

theorem State.hold_id (s : State) : s.hold id = s := by rw [hold, LineInterface.hold_id]; rfl

theorem EngineStep.of_engine (s : State) {e : Engine} (hb : e.beaconCount = s.engine.beaconCount)
    (hc : e.contactor = s.engine.contactor) (hr : e.releaseCount = s.engine.releaseCount)
    (ht : TableLaw s.engine.records → TableLaw e.records) : EngineStep s (s.setEngine e) :=
  ⟨e, id, (State.hold_id _).symm, hb, hc, hr, ht⟩

theorem EngineStep.refl (s : State) : EngineStep s s := .of_engine s rfl rfl rfl id

theorem EngineStep.trans {s t u : State} (h : EngineStep s t) (h' : EngineStep t u) : EngineStep s u := by
  obtain ⟨e, g, rfl, hb, hc, hr, ht⟩ := h
  obtain ⟨e', g', rfl, hb', hc', hr', ht'⟩ := h'
  refine ⟨e', g' ∘ g, ?_, hb'.trans hb, hc'.trans hc, hr'.trans hr, ht' ∘ ht⟩
  simp only [State.worked, State.hold, State.setEngine, State.setLine, LineInterface.hold_hold]; rfl

theorem EngineStep.giveAlert (s : State) (a : Alert) : EngineStep s (s.giveAlert a) :=
  ⟨s.engine, placeAlert a, rfl, rfl, rfl, rfl, id⟩

theorem EngineStep.alertFor (s : State) (c : Nat) (l : Level) : EngineStep s (s.alertFor c l) := by
  unfold State.alertFor; split
  · exact .giveAlert _ _
  · exact .refl _

theorem EngineStep.take (s : State) (c : Nat) (l : Level) : EngineStep s (s.take c l) := by
  have taken : EngineStep s (s.setEngine
      { s.engine with
        records := mapRecord c (fun r => { r with taken := true }) s.engine.records
        stack := { saved := s.engine.cl, code := c, level := l, spent := false } :: s.engine.stack
        cl := l }) :=
    .of_engine s rfl rfl rfl fun h =>
      h.of_codes (map_code_mapRecord c (g := fun r => { r with taken := true }) (fun _ => rfl) _)
  exact taken.trans (.alertFor _ _ _)

theorem EngineStep.updateRecord (s : State) (c : Nat) {g : Record → Record} (hg : ∀ r, (g r).code = r.code) :
    EngineStep s (s.updateRecord c g) :=
  .of_engine s rfl rfl rfl fun h => h.of_codes (map_code_mapRecord c hg _)

theorem EngineStep.createRecord (s : State) {r : Record} (ha : s.record r.code = none)
    (hfree : isGeneral r.code = true → s.generalFull = false) : EngineStep s (s.createRecord r) := by
  have free : isGeneral r.code = true → generalCount s.engine.records < Config.generalSlots := fun hg => by
    simpa [State.generalFull] using hfree hg
  have inserted : EngineStep s (s.setRecords (insertRecord r s.engine.records)) :=
    .of_engine s rfl rfl rfl fun h => by
      refine ⟨map_code_insertRecord r _ (findRecord_none ha) h.1, ?_⟩
      have hcount : generalCount s.engine.records ≤ Config.generalSlots := h.2
      show generalCount (insertRecord r s.engine.records) ≤ Config.generalSlots
      rw [generalCount_insertRecord]
      split
      next hg => exact free hg
      next => exact hcount
  unfold State.createRecord
  simp only
  split
  · exact inserted.trans (.take _ _ _)
  · exact inserted

theorem EngineStep.detach (s : State) (c : Nat) : EngineStep s (s.detach c) := by
  unfold State.detach; split
  · exact .refl _
  · exact .of_engine s rfl rfl rfl fun h => h.erase c

theorem EngineStep.retake (s : State) : EngineStep s s.retake := by
  unfold State.retake; split
  · exact .refl _
  · exact .take _ _ _

theorem EngineStep.removeRecord (s : State) (c : Nat) : EngineStep s (s.removeRecord c) :=
  (EngineStep.detach s c).trans (.retake _)

/-! ### Records apart from their taken marks -/

/-- The record of a code apart from its taken mark. -/
def State.bare (s : State) (c : Nat) : Option Record := untaken (s.record c)

theorem State.bare_eq_none {s : State} {c : Nat} : s.bare c = none ↔ s.record c = none := by
  simp [bare, untaken]

/-- A change of a record that keeps the code and does not read the taken mark. -/
def Blind (g : Record → Record) : Prop :=
  (∀ r, (g r).code = r.code) ∧ ∀ r b, g { r with taken := b } = { g r with taken := b }

theorem Blind.untaken_map {g : Record → Record} (h : Blind g) (x : Option Record) :
    untaken (x.map g) = (untaken x).map g := by
  cases x with
  | none => rfl
  | some r => exact congrArg some (h.2 r false).symm

theorem conditionEnded_blind : Blind conditionEnded :=
  ⟨fun r => (conditionEnded_keeps r).1, fun r b => by
    obtain ⟨_, _, _, _, life, _, _, _, _, _, _, _, _⟩ := r
    cases life <;> rfl⟩

theorem reraised_blind (a : Raise) : Blind (reraised a) :=
  ⟨fun r => (reraised_keeps a r).1, fun r b => by
    simp only [reraised, reraiseFields]; split <;> rfl⟩

theorem foldedInto_blind (a : Raise) : Blind (foldedInto a) := ⟨fun _ => rfl, fun _ _ => rfl⟩

@[simp] theorem State.giveAlert_bare (s : State) (a : Alert) (c : Nat) : (s.giveAlert a).bare c = s.bare c := rfl

theorem State.take_record (s : State) (c d : Nat) (l : Level) :
    (s.take c l).record d = if d = c then (s.record d).map fun r => { r with taken := true } else s.record d := by
  rw [record, take_engine]
  exact findRecord_mapRecord c d (g := fun r => { r with taken := true }) (fun _ => rfl) _

@[simp] theorem State.take_bare (s : State) (c d : Nat) (l : Level) : (s.take c l).bare d = s.bare d := by
  rw [bare, take_record, bare]; split
  · simp [untaken, Function.comp_def]
  · rfl

@[simp] theorem State.retake_bare (s : State) (d : Nat) : s.retake.bare d = s.bare d := by
  unfold retake; split <;> simp

theorem State.updateRecord_bare (s : State) (c d : Nat) {g : Record → Record} (hg : Blind g) :
    (s.updateRecord c g).bare d = if d = c then (s.bare d).map g else s.bare d := by
  have : (s.updateRecord c g).record d = if d = c then (s.record d).map g else s.record d :=
    findRecord_mapRecord c d hg.1 _
  rw [bare, this, bare]; split
  · exact hg.untaken_map _
  · rfl

theorem State.setRecords_insert_bare (s : State) {r : Record} (ha : s.record r.code = none) (d : Nat) :
    (s.setRecords (insertRecord r s.engine.records)).bare d
      = if d = r.code then some { r with taken := false } else s.bare d := by
  have : (s.setRecords (insertRecord r s.engine.records)).record d = if d = r.code then some r else s.record d :=
    findRecord_insertRecord ha d
  rw [bare, this]; split <;> rfl

theorem State.createRecord_bare (s : State) {r : Record} (ha : s.record r.code = none) (d : Nat) :
    (s.createRecord r).bare d = if d = r.code then some { r with taken := false } else s.bare d := by
  rw [← s.setRecords_insert_bare ha]
  unfold createRecord
  simp only
  split <;> simp

theorem State.detach_bare (s : State) (c d : Nat) : (s.detach c).bare d = if d = c then none else s.bare d := by
  unfold detach
  split
  next h => split
            next hd => subst hd; simp [bare, h, untaken]
            next => rfl
  next =>
    rw [bare, setEngine_record, findRecord_eraseRecord, bare]; split <;> rfl

theorem State.detach_record (s : State) (c : Nat) : (s.detach c).record c = none := by
  rw [← bare_eq_none, detach_bare, if_pos rfl]

theorem State.removeRecord_bare (s : State) (c d : Nat) :
    (s.removeRecord c).bare d = if d = c then none else s.bare d := by
  rw [removeRecord, retake_bare, detach_bare]

/-! ### Raising, presenting, ending -/

theorem State.fold_bare (s : State) (a : Raise) {d : Nat} (hd : d ≠ 4) : (s.fold a).bare d = s.bare d := by
  unfold fold
  split
  next h => exact (createRecord_bare (r := firstOverflow _ _) s h d).trans (if_neg hd)
  next r h =>
    have code : (foldedInto a r).code = 4 := (findRecord_some h).2
    split
    · have absent : (s.detach 4).record (foldedInto a r).code = none := by rw [code]; exact s.detach_record 4
      rw [retake_bare, createRecord_bare (r := { foldedInto a r with level := a.level, taken := false }) _ absent,
        if_neg (by simpa [code] using hd), detach_bare, if_neg hd]
    · rw [updateRecord_bare s 4 d (foldedInto_blind a), if_neg hd]

theorem EngineStep.fold (s : State) (a : Raise) : EngineStep s (s.fold a) := by
  unfold State.fold
  split
  next h => exact .createRecord (r := firstOverflow _ _) s h (fun hg => nomatch hg)
  next r h =>
    have code : (foldedInto a r).code = 4 := (findRecord_some h).2
    split
    · have absent : (s.detach 4).record (foldedInto a r).code = none := by rw [code]; exact s.detach_record 4
      refine ((EngineStep.detach s 4).trans
        (.createRecord (r := { foldedInto a r with level := a.level, taken := false }) _ absent fun hg => ?_)).trans
          (.retake _)
      rw [show isGeneral _ = isGeneral (foldedInto a r).code from rfl, code] at hg; exact nomatch hg
    · exact .updateRecord s 4 fun _ => rfl

theorem EngineStep.raiseAbsent (s : State) {a : Raise} (ha : s.record a.code = none) :
    EngineStep s (s.raiseAbsent a) := by
  unfold State.raiseAbsent
  split
  · exact .fold s a
  next hf =>
    have free : isGeneral a.code = true → s.generalFull = false := fun hg => by
      rw [hg, Bool.true_and] at hf; simpa using hf
    exact .createRecord s ha free

/-- The records after a raise of an absent code (R76, R89). -/
theorem State.raiseAbsent_bare (s : State) {a : Raise} (ha : s.record a.code = none) {d : Nat} (hd : d ≠ 4) :
    (s.raiseAbsent a).bare d =
      if d = a.code then
        if isGeneral a.code && s.generalFull then none
        else some { a.record s.engine.beaconCount with taken := false }
      else s.bare d := by
  unfold raiseAbsent
  split
  next hf =>
    rw [fold_bare s a hd]
    split
    next h => subst h; simpa [bare, untaken] using ha
    next => rfl
  next hf => rw [createRecord_bare (r := a.record s.engine.beaconCount) s ha]; rfl

end Sys2Proof.Machine
end

section
/-! Raising, presenting, replacing and ending a record, with the park that a raise may abandon, and the comparison of the
quorum: what each leaves of every record and what it leaves alone. -/

namespace Sys2Proof.Machine

/-! ### Abandoning a park -/

theorem State.abandonPark_of_not_parking {s : State} (h : s.station ≠ .parking) : s.abandonPark = s := by
  unfold abandonPark; split
  · contradiction
  · rfl

theorem State.abandonAt_of_not_parking {s : State} (h : s.station ≠ .parking) (l : Level) : s.abandonAt l = s := by
  unfold abandonAt; split
  · exact abandonPark_of_not_parking h
  · rfl

theorem State.abandonPark_of_parking {s : State} (h : s.station = .parking) :
    s.abandonPark = ((s.setStation .run).hold HeldFrames.withdrawParking).respond
      (Response.plain parkEnterCode .unavailable) := by
  unfold abandonPark; rw [h]

/-- After the abandoning the station is not in PARKING. -/
theorem State.abandonPark_station_ne (s : State) : s.abandonPark.station ≠ .parking := by
  by_cases h : s.station = .parking
  · rw [abandonPark_of_parking h]; simp [State.station]
  · rw [abandonPark_of_not_parking h]; exact h

theorem State.abandonPark_idem (s : State) : s.abandonPark.abandonPark = s.abandonPark :=
  abandonPark_of_not_parking s.abandonPark_station_ne

theorem State.abandonPark_setIsolation (s : State) (u : Isolation) :
    (s.setIsolation u).abandonPark = s.abandonPark.setIsolation u := by
  by_cases h : s.station = .parking
  · have h' : (s.setIsolation u).station = .parking := h
    rw [abandonPark_of_parking h', abandonPark_of_parking h]; rfl
  · have h' : (s.setIsolation u).station ≠ .parking := h
    rw [abandonPark_of_not_parking h', abandonPark_of_not_parking h]

theorem HeldFrames.withdrawParking_onAlerts (g : List (Queued Alert) → List (Queued Alert)) :
    HeldFrames.withdrawParking ∘ HeldFrames.onAlerts g = HeldFrames.onAlerts g ∘ HeldFrames.withdrawParking := rfl

theorem State.abandonPark_worked (s : State) (e : Engine) (g : List (Queued Alert) → List (Queued Alert)) :
    (s.worked e g).abandonPark = s.abandonPark.worked e g := by
  by_cases h : s.station = .parking
  · have h' : (s.worked e g).station = .parking := h
    rw [abandonPark_of_parking h', abandonPark_of_parking h]
    simp only [worked, hold, setEngine, setStation, setStart, setLine, respond, setLink, LineInterface.hold_hold,
      HeldFrames.withdrawParking_onAlerts]
  · have h' : (s.worked e g).station ≠ .parking := h
    rw [abandonPark_of_not_parking h', abandonPark_of_not_parking h]

theorem EngineStep.abandonPark {s t : State} (h : EngineStep s t) : EngineStep s.abandonPark t.abandonPark := by
  obtain ⟨e, g, rfl, hb, hc, hr, ht⟩ := h
  refine ⟨e, g, s.abandonPark_worked e g, ?_⟩
  rw [State.abandonPark_engine]
  exact ⟨hb, hc, hr, ht⟩

theorem EngineStep.setIsolation {s t : State} (h : EngineStep s t) (u : Isolation) :
    EngineStep (s.setIsolation u) (t.setIsolation u) := by
  obtain ⟨e, g, rfl, hs⟩ := h
  exact ⟨e, g, rfl, hs⟩

/-! ### Engine and quorum at work -/

/-- The isolation unit after a comparison of the quorum: the rejoin queue, the probation, the suspension flag and the
readmit-owed list stay. -/
def QuorumOnly (u v : Isolation) : Prop :=
  v.queue = u.queue ∧ v.probation = u.probation ∧ v.suspended = u.suspended ∧ v.owed = u.owed

/-- From `s` to `t` the engine has worked, the quorum may have been compared and a park may have been abandoned. -/
def Works (s t : State) : Prop :=
  ∃ u, QuorumOnly s.isolation u
    ∧ (EngineStep (s.setIsolation u) t ∨ EngineStep (s.abandonPark.setIsolation u) t)

theorem State.abandonPark_isolation (s : State) : s.abandonPark.isolation = s.isolation := by
  unfold abandonPark; split <;> rfl

theorem EngineStep.works {s t : State} (h : EngineStep s t) : Works s t :=
  ⟨s.isolation, ⟨rfl, rfl, rfl, rfl⟩, .inl h⟩

theorem EngineStep.isolation {s t : State} (h : EngineStep s t) : t.isolation = s.isolation := by
  obtain ⟨e, g, rfl, -⟩ := h; rfl

theorem Works.refl (s : State) : Works s s := (EngineStep.refl s).works

theorem Works.abandonPark (s : State) : Works s s.abandonPark :=
  ⟨s.isolation, ⟨rfl, rfl, rfl, rfl⟩, .inr (by
    rw [← s.abandonPark_isolation]; exact .refl s.abandonPark)⟩

theorem Works.abandonAt (s : State) (l : Level) : Works s (s.abandonAt l) := by
  unfold State.abandonAt; split
  · exact .abandonPark s
  · exact .refl s

theorem Works.setIsolation {s : State} {u : Isolation} (h : QuorumOnly s.isolation u) : Works s (s.setIsolation u) :=
  ⟨u, h, .inl (.refl _)⟩

theorem Works.isolation {s t : State} (h : Works s t) : QuorumOnly s.isolation t.isolation := by
  obtain ⟨u, hu, he | he⟩ := h
  · rw [he.isolation]; exact hu
  · rw [he.isolation]; exact hu

theorem QuorumOnly.trans {u v w : Isolation} (h : QuorumOnly u v) (h' : QuorumOnly v w) : QuorumOnly u w := by
  obtain ⟨h1, h2, h3, h4⟩ := h
  obtain ⟨h1', h2', h3', h4'⟩ := h'
  exact ⟨h1'.trans h1, h2'.trans h2, h3'.trans h3, h4'.trans h4⟩

theorem Works.trans {s t v : State} (h : Works s t) (h' : Works t v) : Works s v := by
  have hiso := h.isolation
  obtain ⟨u, -, he⟩ := h
  obtain ⟨u', hu', he'⟩ := h'
  refine ⟨u', hiso.trans hu', ?_⟩
  rcases he with he | he <;> rcases he' with he' | he'
  · exact .inl ((he.setIsolation u').trans he')
  · refine .inr (EngineStep.trans ?_ he')
    have := (he.abandonPark).setIsolation u'
    rwa [State.abandonPark_setIsolation] at this
  · exact .inr ((he.setIsolation u').trans he')
  · refine .inr (EngineStep.trans ?_ he')
    have := (he.abandonPark).setIsolation u'
    rwa [State.abandonPark_setIsolation, State.abandonPark_idem] at this

/-! ### What such work leaves alone -/

section
variable {s t : State} (h : Works s t)
include h

theorem Works.peers : t.peers = s.peers := by
  obtain ⟨u, -, ⟨e, g, rfl, -⟩ | ⟨e, g, rfl, -⟩⟩ := h
  · rfl
  · show s.abandonPark.peers = s.peers
    unfold State.abandonPark; split <;> rfl

theorem Works.peer (i : Station) : t.peer i = s.peer i := by rw [State.peer, h.peers]; rfl

theorem Works.selector : t.selector = s.selector := by
  obtain ⟨u, -, ⟨e, g, rfl, -⟩ | ⟨e, g, rfl, -⟩⟩ := h
  · rfl
  · show s.abandonPark.selector = s.selector
    unfold State.abandonPark; split <;> rfl

theorem Works.supervision : t.supervision = s.supervision := by
  obtain ⟨u, -, ⟨e, g, rfl, -⟩ | ⟨e, g, rfl, -⟩⟩ := h
  · rfl
  · show s.abandonPark.supervision = s.supervision
    unfold State.abandonPark; split <;> rfl

theorem Works.shell : t.shell = s.shell := by
  obtain ⟨u, -, ⟨e, g, rfl, -⟩ | ⟨e, g, rfl, -⟩⟩ := h
  · rfl
  · exact s.abandonPark_shell

theorem Works.config : t.config = s.config := shell_config h.shell
theorem Works.envelope : t.envelope = s.envelope := shell_envelope h.shell
theorem Works.pending : t.pending = s.pending := shell_pending h.shell
theorem Works.trips : t.trips = s.trips := shell_trips h.shell
theorem Works.pins : t.pins = s.pins := congrArg Shell.pins h.shell
theorem Works.straps : t.start.straps = s.start.straps := congrArg Shell.straps h.shell

/-- The engine's counts and the contactor sequence. -/
theorem Works.counts : t.engine.beaconCount = s.engine.beaconCount ∧ t.engine.contactor = s.engine.contactor
    ∧ t.engine.releaseCount = s.engine.releaseCount := by
  obtain ⟨u, -, ⟨e, g, rfl, hb, hc, hr, -⟩ | ⟨e, g, rfl, hb, hc, hr, -⟩⟩ := h
  · exact ⟨hb, hc, hr⟩
  · simp only [State.setIsolation_engine, State.abandonPark_engine] at hb hc hr; exact ⟨hb, hc, hr⟩

theorem Works.table (ht : TableLaw s.engine.records) : TableLaw t.engine.records := by
  obtain ⟨u, -, ⟨e, g, rfl, -, -, -, hk⟩ | ⟨e, g, rfl, -, -, -, hk⟩⟩ := h
  · exact hk ht
  · simp only [State.setIsolation_engine, State.abandonPark_engine] at hk; exact hk ht

/-- Start control, where it is not the park that is abandoned. -/
theorem Works.start : t.start = s.start ∨ s.station = .parking ∧ t.start = { s.start with station := .run } := by
  obtain ⟨u, -, ⟨e, g, rfl, -⟩ | ⟨e, g, rfl, -⟩⟩ := h
  · exact .inl rfl
  · by_cases hp : s.station = .parking
    · rw [State.abandonPark_of_parking hp]; exact .inr ⟨hp, rfl⟩
    · rw [State.abandonPark_of_not_parking hp]; exact .inl rfl

theorem Works.riding : t.station.riding = s.station.riding := by
  rcases h.start with hs | ⟨hp, hs⟩
  · rw [State.station, hs]; rfl
  · rw [State.station, hs, hp]; rfl

theorem Works.own : t.own = s.own := by rw [State.own, h.straps]; rfl

variable (hp : s.station ≠ .parking)
include hp

/-- Without a park to abandon the engine worked on a state that differs in the isolation unit alone. -/
theorem Works.engineStep : ∃ u, QuorumOnly s.isolation u ∧ EngineStep (s.setIsolation u) t := by
  obtain ⟨u, hu, he | he⟩ := h
  · exact ⟨u, hu, he⟩
  · rw [State.abandonPark_of_not_parking hp] at he; exact ⟨u, hu, he⟩

theorem Works.start_eq : t.start = s.start := h.start.resolve_right fun hs => hp hs.1

theorem Works.station_eq : t.station = s.station := by rw [State.station, h.start_eq hp]; rfl

theorem Works.link_eq : t.link = s.link := by
  obtain ⟨u, -, e, g, rfl, -⟩ := h.engineStep hp; rfl

/-- The line interface but for the alert queue. -/
theorem Works.line_eq : ∃ g, t.line = s.line.hold (HeldFrames.onAlerts g) := by
  obtain ⟨u, -, e, g, rfl, -⟩ := h.engineStep hp; exact ⟨g, rfl⟩

end

/-! ### Raising -/

/-- The records after a raise (R76, R77), that of OVERFLOW apart, by whether every general slot is occupied. -/
def raisedRecord (full : Bool) (count : BitVec 16) (a : Raise) (old : Option Record) : Option Record :=
  match old with
  | some r => some (reraised a r)
  | none => if isGeneral a.code && full then none else some { a.record count with taken := false }

@[simp] theorem Raise.record_code (a : Raise) (n : BitVec 16) : (a.record n).code = a.code := rfl

theorem State.abandonAt_bare (s : State) (l : Level) (c : Nat) : (s.abandonAt l).bare c = s.bare c := by
  rw [bare, abandonAt_record]; rfl

theorem State.generalFull_of_engine {s t : State} (h : t.engine = s.engine) : t.generalFull = s.generalFull := by
  rw [generalFull, h]; rfl

theorem State.raise_bare (s : State) (a : Raise) {c : Nat} (hc : c ≠ 4) :
    (s.raise a).bare c =
      if c = a.code then raisedRecord s.generalFull s.engine.beaconCount a (s.bare c) else s.bare c := by
  simp only [raise]
  split
  next r hr =>
    rw [updateRecord_bare _ _ _ (reraised_blind a), abandonAt_bare]
    split
    next he =>
      subst he
      rw [abandonAt_record] at hr
      simp [bare, hr, untaken, raisedRecord]
    next => rfl
  next hr =>
    rw [raiseAbsent_bare _ hr hc, abandonAt_bare, generalFull_of_engine (abandonAt_engine s _), abandonAt_engine]
    split
    next he =>
      subst he
      rw [abandonAt_record] at hr
      rw [bare, hr]; rfl
    next => rfl

theorem EngineStep.raise (s : State) (a : Raise) : EngineStep (s.abandonAt a.level) (s.raise a) := by
  simp only [State.raise]
  split
  · exact .updateRecord _ _ (reraised_blind a).1
  next hr => exact .raiseAbsent _ hr

theorem Works.raise (s : State) (a : Raise) : Works s (s.raise a) :=
  (Works.abandonAt s a.level).trans (EngineStep.raise s a).works

theorem State.raise_isolation (s : State) (a : Raise) : (s.raise a).isolation = s.isolation := by
  rw [(EngineStep.raise s a).isolation]
  unfold abandonAt; split
  · exact s.abandonPark_isolation
  · rfl

/-- The record after a presentation (R76). -/
def presentedRecord (full : Bool) (count : BitVec 16) (a : Raise) (old : Option Record) : Option Record :=
  match old with
  | some r => some r
  | none => if isGeneral a.code && full then none else some { a.record count with taken := false }

theorem State.raise_bare_four {s : State} {a : Raise} (h4 : a.code ≠ 4)
    (hn : (s.record a.code).isSome = true ∨ (isGeneral a.code && s.generalFull) = false) :
    (s.raise a).bare 4 = s.bare 4 := by
  simp only [raise]
  split
  next => rw [updateRecord_bare _ _ _ (reraised_blind a), if_neg (Ne.symm h4), abandonAt_bare]
  next hr =>
    rw [abandonAt_record] at hr
    have hn : (isGeneral a.code && (s.abandonAt a.level).generalFull) = false := by
      rw [generalFull_of_engine (abandonAt_engine s _)]
      exact hn.resolve_left (by simp [hr])
    rw [raiseAbsent, hn]
    exact (createRecord_bare (r := a.record _) _ (by simpa using hr) 4).trans
      ((if_neg (Ne.symm h4)).trans (abandonAt_bare ..))

theorem State.present_bare (s : State) {a : Raise} (h4 : a.code ≠ 4) (c : Nat) :
    (s.present a).bare c =
      if c = a.code then presentedRecord s.generalFull s.engine.beaconCount a (s.bare c) else s.bare c := by
  unfold present
  split
  next r hr =>
    split
    next he => subst he; simp [bare, hr, untaken, presentedRecord]
    next => rfl
  next hr =>
    split
    next hf =>
      split
      next he => subst he; rw [bare, hr]; simp [untaken, presentedRecord, hf]
      next => rfl
    next hf =>
      by_cases h : c = 4
      · subst h
        rw [raise_bare_four h4 (.inr (by simpa using hf)), if_neg (Ne.symm h4)]
      · rw [raise_bare s a h]
        split
        next he => subst he; rw [bare, hr]; rfl
        next => rfl

theorem Works.present (s : State) (a : Raise) : Works s (s.present a) := by
  unfold State.present; split
  · exact .refl s
  · split
    · exact .refl s
    · exact .raise s a

theorem Works.conditionGone (s : State) (c : Nat) : Works s (s.conditionGone c) :=
  (EngineStep.updateRecord s c conditionEnded_blind.1).works

theorem State.conditionGone_bare (s : State) (c d : Nat) :
    (s.conditionGone c).bare d = if d = c then (s.bare d).map conditionEnded else s.bare d :=
  s.updateRecord_bare c d conditionEnded_blind

theorem Works.replace (s : State) (a : Raise) : Works s (s.replace a) := by
  refine (Works.abandonAt s a.level).trans (EngineStep.works ?_)
  exact ((EngineStep.detach _ _).trans (.raiseAbsent _ (State.detach_record ..))).trans (.retake _)

/-- The records after a replacement of a record present (R101): the general slot it held is free for the new one. -/
theorem State.replace_bare {s : State} (ht : TableLaw s.engine.records) {a : Raise}
    (hp : (s.record a.code).isSome = true) (c : Nat) :
    (s.replace a).bare c =
      if c = a.code then some { a.record s.engine.beaconCount with taken := false } else s.bare c := by
  obtain ⟨r, hr⟩ := Option.isSome_iff_exists.1 hp
  have free : (isGeneral a.code && ((s.abandonAt a.level).detach a.code).generalFull) = false := by
    cases hg : isGeneral a.code with
    | false => rfl
    | true =>
      have hr' : (s.abandonAt a.level).record a.code = some r := by rw [abandonAt_record]; exact hr
      have hcount := ht.generalCount_erase hr hg
      have hle := ht.2
      simp only [generalFull, detach, hr', setEngine_engine, abandonAt_engine, Bool.true_and, decide_eq_false_iff_not,
        not_le]
      omega
  have count : ((s.abandonAt a.level).detach a.code).engine.beaconCount = s.engine.beaconCount := by
    have h := ((EngineStep.detach (s.abandonAt a.level) a.code).works).counts.1
    rw [h, abandonAt_engine]
  rw [replace, retake_bare, raiseAbsent, free]
  refine (createRecord_bare (r := a.record _) _ (detach_record ..) c).trans ?_
  rw [count, detach_bare, abandonAt_bare, Raise.record_code]
  by_cases hc : c = a.code
  · rw [if_pos hc, if_pos hc]; rfl
  · rw [if_neg hc, if_neg hc, if_neg hc]

/-! ### Conditions -/

theorem Works.conditionNow (s : State) (held now : Bool) (a : Raise) : Works s (s.conditionNow held now a) := by
  unfold State.conditionNow; repeat' split
  · exact .raise s a
  · exact .conditionGone s _
  · exact .refl s

theorem Works.raiseOrPresent (s : State) (b : Bool) (a : Raise) : Works s (s.raiseOrPresent b a) := by
  unfold State.raiseOrPresent; split
  · exact .raise s a
  · exact .present s a

theorem Works.checkCondition (s : State) (held now : Bool) (a : Raise) : Works s (s.checkCondition held now a) := by
  unfold State.checkCondition; repeat' split
  · exact .raiseOrPresent s _ a
  · exact .conditionGone s _
  · exact .refl s

/-! ### Quorum -/

theorem Works.isolate (s : State) : Works s s.isolate :=
  (Works.setIsolation (u := { s.isolation with own := .isolated }) ⟨rfl, rfl, rfl, rfl⟩).trans (.raise _ _)

theorem Works.readmitted (s : State) : Works s s.readmitted :=
  (Works.setIsolation (u := { s.isolation with own := .active, rejoinTimer := none, cease := [], readmit := [] })
    ⟨rfl, rfl, rfl, rfl⟩).trans (EngineStep.removeRecord _ _).works

theorem Works.compareQuorum (s : State) : Works s s.compareQuorum := by
  unfold State.compareQuorum; repeat' split
  · exact .isolate s
  · exact .refl s
  · exact .readmitted s
  · exact .refl s
  · exact .refl s
  · exact .refl s

/-- The comparison of the quorum touches the record of CEASED alone (R88, R141, R144). -/
theorem State.compareQuorum_bare (s : State) {c : Nat} (hc : c ≠ 3) : s.compareQuorum.bare c = s.bare c := by
  have isolated : s.isolate.bare c = s.bare c := by
    unfold isolate
    by_cases h4 : c = 4
    · subst h4; exact raise_bare_four (by decide) (.inr rfl)
    · rw [raise_bare _ _ h4]; exact if_neg hc
  have back : s.readmitted.bare c = s.bare c := by
    rw [readmitted, removeRecord_bare, if_neg hc]; rfl
  unfold compareQuorum; repeat' split
  · exact isolated
  · rfl
  · exact back
  all_goals rfl

end Sys2Proof.Machine
end

section
/-! What the end of a handling leaves of each block, and a record created or ended with its taken mark, CL and stack. -/

namespace Sys2Proof.Machine

/-! ### The handover, block by block -/

section
variable (s0 s : State)

/-- The handover up to envelope and pins. -/
theorem State.handOver_before : ∃ c n, s0.handOver s
    = s0.close (s0.followSuspension (s.setContactor c n)) := by
  obtain ⟨c, n, h⟩ := handToContactor_only s0 s
  exact ⟨c, n, by rw [← h]; rfl⟩

@[simp] theorem State.followSuspension_engine : (s0.followSuspension s).engine = s.engine := by
  unfold followSuspension; split <;> rfl

@[simp] theorem State.handOver_start : (s0.handOver s).start = s.start := by
  obtain ⟨c, n, h⟩ := s0.handOver_before s
  rw [h, close_start]; unfold followSuspension; split <;> rfl

@[simp] theorem State.handOver_line : (s0.handOver s).line = s.line := by
  obtain ⟨c, n, h⟩ := s0.handOver_before s
  rw [h, close_line]; unfold followSuspension; split <;> rfl

@[simp] theorem State.handOver_peers : (s0.handOver s).peers = s.peers := by
  obtain ⟨c, n, h⟩ := s0.handOver_before s
  rw [h, close_peers]; unfold followSuspension; split <;> rfl

@[simp] theorem State.handOver_selector : (s0.handOver s).selector = s.selector := by
  obtain ⟨c, n, h⟩ := s0.handOver_before s
  rw [h, close_selector]; unfold followSuspension; split <;> rfl

@[simp] theorem State.handOver_supervision : (s0.handOver s).supervision = s.supervision := by
  obtain ⟨c, n, h⟩ := s0.handOver_before s
  rw [h, close_supervision]; unfold followSuspension; split <;> rfl

@[simp] theorem State.handOver_link : (s0.handOver s).link = s.link := by
  obtain ⟨c, n, h⟩ := s0.handOver_before s
  rw [h, close_link]; unfold followSuspension; split <;> rfl

@[simp] theorem State.handOver_pending : (s0.handOver s).pending = s.pending := by
  obtain ⟨u, h, hs⟩ := s.handOver_eq s0; rw [h, close_pending, shell_pending hs]

@[simp] theorem State.handOver_config : (s0.handOver s).config = s.config := by
  obtain ⟨u, h, hs⟩ := s.handOver_eq s0; rw [h, close_config, shell_config hs]

@[simp] theorem State.handOver_trips : (s0.handOver s).trips = s.trips := by
  obtain ⟨u, h, hs⟩ := s.handOver_eq s0; rw [h, close_trips, shell_trips hs]

theorem State.handOver_engine : ∃ c n,
    (s0.handOver s).engine = { s.engine with contactor := c, releaseCount := n } := by
  obtain ⟨c, n, h⟩ := s0.handOver_before s
  exact ⟨c, n, by rw [h, close_engine, followSuspension_engine]; rfl⟩

@[simp] theorem State.handOver_records : (s0.handOver s).engine.records = s.engine.records := by
  obtain ⟨c, n, h⟩ := s0.handOver_engine s; rw [h]

@[simp] theorem State.handOver_stack : (s0.handOver s).engine.stack = s.engine.stack := by
  obtain ⟨c, n, h⟩ := s0.handOver_engine s; rw [h]

@[simp] theorem State.handOver_cl : (s0.handOver s).engine.cl = s.engine.cl := by
  obtain ⟨c, n, h⟩ := s0.handOver_engine s; rw [h]

@[simp] theorem State.handOver_beaconCount : (s0.handOver s).engine.beaconCount = s.engine.beaconCount := by
  obtain ⟨c, n, h⟩ := s0.handOver_engine s; rw [h]

/-- The suspension flag is all that the handover touches of the isolation unit (R151). -/
theorem State.handOver_isolation :
    (s0.handOver s).isolation = { s.isolation with suspended := (s0.handOver s).isolation.suspended } := by
  obtain ⟨c, n, h⟩ := s0.handOver_before s
  rw [h, close_isolation]; unfold followSuspension; split <;> rfl

@[simp] theorem State.handOver_station : (s0.handOver s).station = s.station := by
  rw [station, handOver_start]; rfl

@[simp] theorem State.handOver_peer (i : Station) : (s0.handOver s).peer i = s.peer i := by
  rw [peer, handOver_peers]; rfl

@[simp] theorem State.handOver_record (c : Nat) : (s0.handOver s).record c = s.record c := by
  rw [record, handOver_records]; rfl

@[simp] theorem State.handOver_bare (c : Nat) : (s0.handOver s).bare c = s.bare c := by
  rw [bare, handOver_record]; rfl

@[simp] theorem State.handOver_generalFull : (s0.handOver s).generalFull = s.generalFull := by
  rw [generalFull, handOver_records]; rfl

@[simp] theorem State.handOver_isolation_own : (s0.handOver s).isolation.own = s.isolation.own := by
  rw [handOver_isolation]

@[simp] theorem State.handOver_queue : (s0.handOver s).isolation.queue = s.isolation.queue := by
  rw [handOver_isolation]

@[simp] theorem State.handOver_probation : (s0.handOver s).isolation.probation = s.isolation.probation := by
  rw [handOver_isolation]

@[simp] theorem State.handOver_owed : (s0.handOver s).isolation.owed = s.isolation.owed := by
  rw [handOver_isolation]

end

/-- The handover by the rules of R105, once the contactor sequence follows its own. -/
theorem HandedOver.of_contactor {s0 s : State} (he : s.envelope = s0.envelope)
    (hs : s.isolation.suspended = s0.isolation.suspended) (follows : ContactorFollows s0 (s0.handToContactor s)) :
    HandedOver s0 (s0.handOver s) := by
  obtain ⟨c, n, hu⟩ := handToContactor_only s0 s
  rw [hu] at follows
  refine ⟨PinsFollow.drivePins _, ?_, ?_, ?_⟩ <;>
    simp only [State.handOver, hu, State.followSuspension, State.handToEnvelope, State.recompute]
  · simp only [EnvelopeFollows]
    (repeat' split) <;> simp_all [State.setContactor]
  · simp only [SuspensionFollows]
    (repeat' split) <;> simp_all [State.setContactor] <;> rfl
  · (repeat' split) <;> exact follows

/-- The contactor sequence at the end of the handling that abandons a park: PARKING rides as RUN does. -/
theorem ContactorFollows.of_abandoned {s0 s : State} (hc : s.engine.contactor = s0.engine.contactor)
    (hr : s.engine.releaseCount = s0.engine.releaseCount) (hp : s.start.straps = s0.start.straps)
    (h0 : s0.station = .parking) (hst : s.station = .run) : ContactorFollows s0 (s0.handToContactor s) := by
  have station : (s0.setStation .run).station = .run := rfl
  have drive : (s0.setStation .run).driveCondition = s0.driveCondition := rfl
  have moved : s0.handToContactor s = (s0.setStation .run).handToContactor s := by
    simp [State.handToContactor, State.contactorMoved, h0, station, drive]
  have follows : ContactorFollows (s0.setStation .run) ((s0.setStation .run).handToContactor s) :=
    ContactorFollows.handToContactor hc hr hp hst
  rw [moved]
  generalize (s0.setStation .run).handToContactor s = t at follows ⊢
  have riding : (s0.setStation .run).station.riding = s0.station.riding := by rw [h0]; rfl
  rw [ContactorFollows, riding] at follows
  exact follows

/-! ### Resolved quantities -/

/-- What the sources of R59 are read from. -/
theorem State.resolved_congr {s t : State} (hown : t.own = s.own) (hsel : t.selector.own = s.selector.own)
    (hfall : t.config.fallbackDischarge = s.config.fallbackDischarge)
    (hpeer : ∀ i, (t.peer i).state.trusted = (s.peer i).state.trusted)
    (hpub : ∀ i, (t.peer i).state.trusted = true → (t.peer i).published = (s.peer i).published) :
    t.resolved = s.resolved := by
  have serves : ∀ q i, t.serves q i = s.serves q i := by
    intro q i
    simp only [State.serves, State.ownValue, hown, hsel, hpeer i]
    split
    · rfl
    · split
      next ht => rw [hpub i (by rw [hpeer i]; exact ht)]
      next => rfl
  have servers : ∀ q, t.servers q = s.servers q := fun q => by simp only [State.servers, serves]
  simp only [State.resolved, State.resolveOrSecondary, State.resolveOrFallback, State.resolveCharger,
    State.firstServer, servers, hfall]

theorem Works.resolved {s t : State} (h : Works s t) : t.resolved = s.resolved :=
  State.resolved_congr h.own (by rw [h.selector]) (by rw [h.config]) (fun i => by rw [h.peer i])
    fun i _ => by rw [h.peer i]

theorem Works.settled {s t : State} (h : Works s t) (hs : Settled s) : Settled t := by
  obtain ⟨hq, hp, -, -⟩ := h.isolation
  refine ⟨?_, ?_⟩
  · rw [h.resolved, h.selector]; exact hs.1
  · rw [hq, hp]; exact hs.2

/-! ### Records with their taken marks -/

/-- A record present apart from its taken mark. -/
theorem bare_some {s : State} {c : Nat} {r : Record} (h : s.bare c = some r) :
    ∃ b, s.record c = some { r with taken := b } := by
  rw [State.bare, untaken, Option.map_eq_some_iff] at h
  obtain ⟨x, hx, rfl⟩ := h
  exact ⟨x.taken, hx⟩

/-- The line after the ALERT of a taking (R18, R102). -/
theorem State.alertFor_line_of_synthetic (s : State) {c : Nat} (h : isLocal c = false) (l : Level) :
    s.alertFor c l = s := by
  simp [alertFor, h]

theorem State.createRecord_record (s : State) {r : Record} (ha : s.record r.code = none) (d : Nat) :
    (s.createRecord r).record d =
      if d = r.code then some { r with taken := r.taken || decide (s.engine.cl < r.level) } else s.record d := by
  have inserted : (s.setRecords (insertRecord r s.engine.records)).record d
      = if d = r.code then some r else s.record d := findRecord_insertRecord ha d
  by_cases hl : s.engine.cl < r.level
  · have taken : s.createRecord r = (s.setRecords (insertRecord r s.engine.records)).take r.code r.level := if_pos hl
    rw [taken, take_record, inserted]
    by_cases hd : d = r.code <;> simp [hd, hl]
  · have waits : s.createRecord r = s.setRecords (insertRecord r s.engine.records) := if_neg hl
    rw [waits, inserted]
    by_cases hd : d = r.code <;> simp [hd, hl]

theorem State.createRecord_takenOrWaits (s : State) (r : Record) :
    TakenOrWaits r.code r.level s (s.createRecord r) := by
  unfold TakenOrWaits
  split
  next hl =>
    have taken : s.createRecord r = (s.setRecords (insertRecord r s.engine.records)).take r.code r.level := if_pos hl
    rw [taken, take_engine]; exact ⟨rfl, rfl⟩
  next hl =>
    have waits : s.createRecord r = s.setRecords (insertRecord r s.engine.records) := if_neg hl
    rw [waits]; exact ⟨rfl, rfl⟩

/-- The creation of a record of synthetic origin gives no ALERT (R102). -/
theorem State.createRecord_line_of_synthetic (s : State) {r : Record} (h : isLocal r.code = false) :
    (s.createRecord r).line = s.line := by
  simp only [createRecord, take, alertFor_line_of_synthetic _ h]; split <;> rfl

/-- A raise of an absent code for which a slot is free creates the record (R76). -/
theorem State.raise_of_absent {s : State} {a : Raise} (hp : s.station ≠ .parking ∨ a.level < 3)
    (ha : s.record a.code = none) (hf : s.generalFull = false) :
    s.raise a = s.createRecord (a.record s.engine.beaconCount) := by
  have stays : s.abandonAt a.level = s := by
    rcases hp with hp | hl
    · exact abandonAt_of_not_parking hp _
    · exact if_neg (not_le.2 hl)
  simp only [raise, stays, ha, raiseAbsent, hf, Bool.and_false, Bool.false_eq_true, if_false]

/-- What the part itself raises where the code is absent and a slot is free (R76, R93). -/
theorem PartRaised.of_absent {s : State} {a : Raise} (hp : s.station ≠ .parking ∨ a.level < 3)
    (ha : s.record a.code = none) (hf : s.generalFull = false) (hi : a.input = none) (h2 : a.code ≠ 2)
    (h4 : a.code ≠ 4) : PartRaised a s (s.raise a) := by
  rw [State.raise_of_absent hp ha hf]
  refine ⟨?_, fun d hd => ?_, s.createRecord_takenOrWaits (a.record _)⟩
  · rw [State.createRecord_record (r := a.record _) s ha, Raise.record_code, if_pos rfl]
    simp [Raise.record, lifeAtCreation, h2, h4, Raise.detect, hi]
  · rw [State.createRecord_record (r := a.record _) s ha, Raise.record_code, if_neg hd]

/-- These facts are about the engine alone. -/
theorem PartRaised.of_engine {a : Raise} {s t s' t' : State} (h : PartRaised a s t) (hs : s'.engine = s.engine)
    (hr : t'.engine.records = t.engine.records) (hk : t'.engine.stack = t.engine.stack)
    (hc : t'.engine.cl = t.engine.cl) : PartRaised a s' t' := by
  simpa only [PartRaised, OtherRecords, TakenOrWaits, State.record, hs, hr, hk, hc] using h

/-- The end of a condition changes the one record (R80). -/
theorem ConditionEnds.conditionGone (s : State) (c : Nat) : ConditionEnds c s (s.conditionGone c) := by
  have code : ∀ r, (conditionEnded r).code = r.code := conditionEnded_blind.1
  refine ⟨fun d hd => ?_, rfl, rfl, ?_⟩
  · exact (findRecord_mapRecord c d code _).trans (if_neg hd)
  · refine (findRecord_mapRecord c c code _).trans ((if_pos rfl).trans ?_)
    refine congrArg (Option.map · (s.record c)) (funext fun r => ?_)
    obtain ⟨_, level, _, _, life, _, _, _, _, _, _, _, _⟩ := r
    cases life <;> simp [conditionEnded, lifeAfterGone, Config.dwellPeriods]

theorem ConditionEnds.of_engine {c : Nat} {s t s' t' : State} (h : ConditionEnds c s t) (hs : s'.engine = s.engine)
    (hr : t'.engine.records = t.engine.records) (hk : t'.engine.stack = t.engine.stack)
    (hc : t'.engine.cl = t.engine.cl) : ConditionEnds c s' t' := by
  simpa only [ConditionEnds, OtherRecords, State.record, hs, hr, hk, hc] using h

/-! ### Ended conditions and the outputs -/

/-- A sum over the table that reads what `g` keeps. -/
theorem foldl_mapRecord {α β : Type} (c : Nat) {g : Record → Record} (p : Record → β) (f : α → β → α)
    (hg : ∀ r, p (g r) = p r) (l : List Record) (x : α) :
    (mapRecord c g l).foldl (fun m r => f m (p r)) x = l.foldl (fun m r => f m (p r)) x := by
  induction l generalizing x with
  | nil => rfl
  | cons r l ih =>
    have hp : p (if r.code = c then g r else r) = p r := by split <;> simp [hg]
    have cons : mapRecord c g (r :: l) = (if r.code = c then g r else r) :: mapRecord c g l := rfl
    rw [cons, List.foldl_cons, List.foldl_cons, hp, ih]

theorem State.conditionGone_inputs (s : State) (c : Nat) : (s.conditionGone c).envelopeInputs = s.envelopeInputs := by
  have fm : (s.conditionGone c).fmMin = s.fmMin :=
    foldl_mapRecord c Record.fm min (fun r => by unfold conditionEnded; split <;> rfl) _ _
  have fr : (s.conditionGone c).frMin = s.frMin :=
    foldl_mapRecord c Record.fr min (fun r => by unfold conditionEnded; split <;> rfl) _ _
  simp only [envelopeInputs, fm, fr]; rfl

theorem any_mapRecord (c : Nat) {g : Record → Record} (p : Record → Bool) (hg : ∀ r, p (g r) = p r) (l : List Record) :
    (mapRecord c g l).any p = l.any p := by
  rw [mapRecord, List.any_map]
  refine congrArg l.any (funext fun r => ?_)
  simp only [Function.comp]; split <;> simp [hg]

theorem State.conditionGone_outputs (s : State) (c : Nat) : (s.conditionGone c).outputs = s.outputs := by
  have unread : (s.conditionGone c).anyUnread = s.anyUnread :=
    any_mapRecord c Record.unread (fun r => by unfold conditionEnded; split <;> rfl) _
  simp only [outputs, attn, unread]; rfl

theorem PinsFollow.conditionGone {s : State} (h : PinsFollow s) (c : Nat) : PinsFollow (s.conditionGone c) := by
  rw [PinsFollow, State.conditionGone_outputs]; exact h

/-! ### Frames of statements -/

theorem OnlyChanges.trans {l : List Block} {s t u : State} (h : OnlyChanges l s t) (h' : OnlyChanges l t u) :
    OnlyChanges l s u := by
  refine ⟨h'.1.trans h.1, fun b hb => ?_⟩
  have h1 := h.2 b hb
  have h2 := h'.2 b hb
  cases b <;> exact Eq.trans h2 h1

theorem OnlyChanges.mono {l m : List Block} {s t : State} (h : OnlyChanges l s t) (hm : ∀ b ∈ l, b ∈ m) :
    OnlyChanges m s t := ⟨h.1, fun b hb => h.2 b fun hl => hb (hm b hl)⟩

/-- Work of the engine and the quorum without a park to abandon. -/
theorem Works.onlyChanges {s t : State} (h : Works s t) (hp : s.station ≠ .parking) :
    OnlyChanges [.line, .isolation, .engine] s t := by
  refine ⟨h.pending, fun b hb => ?_⟩
  cases b
  case start => exact h.start_eq hp
  case config => exact h.config
  case line => exact absurd (by decide) hb
  case peers => exact h.peers
  case selector => exact h.selector
  case isolation => exact absurd (by decide) hb
  case engine => exact absurd (by decide) hb
  case envelope => exact h.envelope
  case supervision => exact h.supervision
  case link => exact h.link_eq hp
  case trips => exact h.trips
  case pins => exact h.pins

theorem OnlyChanges.handOver (s0 s : State) :
    OnlyChanges [.isolation, .engine, .envelope, .pins] s (s0.handOver s) := by
  refine ⟨s0.handOver_pending s, fun b hb => ?_⟩
  cases b
  case start => exact s0.handOver_start s
  case config => exact s0.handOver_config s
  case line => exact s0.handOver_line s
  case peers => exact s0.handOver_peers s
  case selector => exact s0.handOver_selector s
  case isolation => exact absurd (by decide) hb
  case engine => exact absurd (by decide) hb
  case envelope => exact absurd (by decide) hb
  case supervision => exact s0.handOver_supervision s
  case link => exact s0.handOver_link s
  case trips => exact s0.handOver_trips s
  case pins => exact absurd (by decide) hb

/-- The work of a handling and its handover, as a statement's frame. -/
theorem Works.onlyChanges_handOver {s t : State} (h : Works s t) (hp : s.station ≠ .parking) (s0 : State)
    {l : List Block} (hl : ∀ b ∈ [Block.line, .isolation, .engine, .envelope, .pins], b ∈ l) :
    OnlyChanges l s (s0.handOver t) :=
  .trans ((h.onlyChanges hp).mono fun b hb => hl b (by revert b; decide))
    ((OnlyChanges.handOver s0 t).mono fun b hb => hl b (by revert b; decide))

/-- The handover of a handling whose last part is work of the engine and the quorum. -/
theorem Works.handedOver {s0 s t : State} (h : Works s t) (he : s.envelope = s0.envelope)
    (hs : s.isolation.suspended = s0.isolation.suspended) (hc : s.engine.contactor = s0.engine.contactor)
    (hr : s.engine.releaseCount = s0.engine.releaseCount) (hp : s.start.straps = s0.start.straps)
    (hst : s.station = s0.station) (hn : s.station ≠ .parking) : HandedOver s0 (s0.handOver t) := by
  obtain ⟨-, hcon, hrel⟩ := h.counts
  obtain ⟨-, -, hsus, -⟩ := h.isolation
  exact HandedOver.handOver (h.envelope.trans he) (hsus.trans hs) (hcon.trans hc) (hrel.trans hr)
    (h.straps.trans hp) ((h.station_eq hn).trans hst)

end Sys2Proof.Machine
end

section
/-! From CONFIG to JOIN and from PARKED to JOIN: SETUP, the seal with its trips, and waking. -/

namespace Sys2Proof.Machine

/-! ### The table of R3 -/

theorem nearest_eq_within {low high : Nat} (h : low ≤ high) (v : Nat) : nearest low high v = within low high v := by
  unfold nearest within; repeat' split
  all_goals omega

theorem min_eq_within (high v : Nat) : min high v = within 0 high v := by
  unfold within; repeat' split
  all_goals omega

theorem parameterTable : ParameterTable := by
  intro c v
  have range : ∀ {low high : Nat}, low ≤ high → some (nearest low high v) = some (within low high v) :=
    fun h => congrArg some (nearest_eq_within h v)
  have upTo : ∀ high : Nat, some (min high v) = some (within 0 high v) := fun high =>
    congrArg some (min_eq_within high v)
  have period : clampParameter 0 v = some (periodMs (clampPeriod v)) := rfl
  refine ⟨fun h => ?_, fun h h' => ?_, fun h => ?_, rfl, rfl, rfl, range (by decide), rfl, range (by decide), rfl,
    range (by decide), rfl, upTo _, rfl, upTo _, rfl, range (by decide), rfl, range (by decide), rfl, upTo _, rfl,
    range (by decide), rfl, range (by decide), rfl, range (by decide), rfl, upTo _, rfl, rfl, upTo _, rfl, rfl, rfl, rfl,
    fun id h => clampParameter_of_unassigned v h⟩
  · simp [period, clampPeriod, h, periodMs]
  · have : ¬v ≤ 7 := by omega
    simp [period, clampPeriod, this, h', periodMs]
  · have h7 : ¬v ≤ 7 := by omega
    have h14 : ¬v ≤ 14 := by omega
    simp [period, clampPeriod, h7, h14, periodMs]

/-! ### Out of RUN -/

/-- In CONFIG the outputs are those of a reset (R110). -/
theorem State.outputs_of_config {s : State} (h : s.station = .config) : s.outputs = Pins.initial := by
  simp [outputs, gateKill, lamp, contactorHold, attn, attnFollows, h, StationState.riding, Pins.initial]

/-- A handover at the end of which the station neither rides nor runs: the suspension flag and the pins follow. -/
theorem State.handOver_of_fits {s0 s : State} (hr : s.station.riding = false) (he : EnvelopeLaw s) :
    s0.handOver s = (s0.followSuspension s).drivePins := by
  have fits : EnvelopeLaw (s0.followSuspension s) := by
    unfold followSuspension; split
    · exact he
    · exact he
  rw [handOver, handToContactor_of_not_riding hr, handToEnvelope_of_fits fits]

/-! ### SETUP -/

/-- Where the served speed stays, CONFIG records what the sources give and works no band out (R59, R70). -/
theorem State.refreshServed_of_config {s : State} (hst : s.station = .config)
    (hv : s.resolved.speed = s.selector.served.speed) :
    s.refreshServed = s.setSelector { s.selector with served := s.resolved } := by
  unfold refreshServed
  split
  next h => rw [h]; rfl
  next => simp [resolveQuantities, hst, recordServed, hv]

/-- Settles O6: the parameter is stored, and of the served values the discharge limit alone can follow it. -/
theorem setupStoresTheParameter : Obligations.SetupStoresTheParameter := by
  refine ⟨parameterTable, fun id value held s ready pins envelope settled hheld => ?_⟩
  have hst : s.station = .config := by simpa [Request.takenIn] using ready.2.1
  let u := s.opened.setConfig (storeParameter s.config id.toNat held)
  let r := Response.status 1 { clamped := decide (held ≠ value.toNat) } held
  let t := (u.setSelector { u.selector with served := u.resolved }).respond r
  have speed : u.resolved.speed = u.selector.served.speed := by
    rw [← show s.selector.served.speed = u.selector.served.speed from rfl, ← settled.1]; rfl
  have rule : s.opened.setupRule id value = (u.setSelector { u.selector with served := u.resolved }, some r) := by
    simp only [State.setupRule, hheld]
    exact congrArg (·, some r) (State.refreshServed_of_config (s := u) hst speed)
  have law : EnvelopeLaw t :=
    envelope.of_not_running (by rw [hst]; decide) (by show s.station ≠ .run; rw [hst]; decide) rfl
  have done : s.handOver t = t := by
    have riding : t.station.riding = false := by show s.station.riding = false; rw [hst]; rfl
    have follows : PinsFollow t := by
      have ht : t.station = .config := hst
      rw [PinsFollow, State.outputs_of_config ht, ← State.outputs_of_config hst]; exact pins
    have suspension : s.followSuspension t = t := State.followSuspension_of_same rfl
    rw [State.handOver_of_fits riding law, suspension, State.drivePins_of_follow follows]
  refine ⟨t, ?_, ⟨rfl, fun b hb => ?_⟩, ⟨rfl, rfl⟩, rfl, rfl⟩
  · refine congrArg Host.Outcome.next ?_
    rw [State.takeRequest_of_opened _ ready nofun nofun nofun, rule]; exact done
  · revert hb; cases b <;> simp [SameBlock] <;> rfl

/-! ### Entry to JOIN -/

theorem Six.get_map {α : Type} (f : α → α) (t : Six α) (i : Station) : (t.map f).get i = f (t.get i) := by
  fin_cases i <;> rfl

/-- The persistence reset leaves the selector of `joined` (R61, R70). -/
theorem State.resetPersistence_eq (s : State) : s.resetPersistence = s.setSelector (joined s.config s.selector) := by
  unfold resetPersistence joined
  simp only
  split
  next h =>
    simp only [workBand, setSelector_selector, setSelector_config, Bool.false_eq_true, if_false, bandFrom]
    cases hs : s.selector.served.speed <;> rfl
  next h => rfl

/-- The entry to JOIN, block by block (R8, R34, R61). -/
theorem State.enterJoin_eq (s : State) :
    s.enterJoin = ((s.setStart { s.start with
        station := .join, discovery := 0, beaconTimer := some (periodMs s.config.period) }).setPeers
      (s.peers.map fun e => { e with heard := false })).setSelector (joined s.config s.selector) := by
  rw [enterJoin, resetPersistence_eq]; rfl

/-! ### Waking -/

/-- A WAKE stands in the wake slot (R21). -/
theorem State.giveWake_eq (s : State) :
    s.giveWake = s.setLine { s.line with wake :=
      match s.line.wake with
      | some q => some q
      | none => some { frame := s.own, attempt := 1, committed := false } } := by
  unfold giveWake
  cases h : s.line.wake with
  | some q => show s = s.setLine { s.line with wake := some q }; rw [← h]; rfl
  | none => rfl

/-- The end of a handling that takes a parked station to JOIN: the pins alone follow (R105). -/
theorem State.handOver_of_woken {s t : State} (hs : s.station = .parked) (ht : t.station = .join)
    (he : EnvelopeLaw s) (henv : t.envelope = s.envelope) (hcl : t.engine.cl = s.engine.cl) :
    s.handOver t = t.drivePins := by
  have law : EnvelopeLaw t := he.of_not_running (by rw [hs]; decide) (by rw [ht]; decide) henv
  rw [handOver_of_fits (by rw [ht]; rfl) law, followSuspension_of_same hcl]

/-- Settles O43: both ways into JOIN are `enterJoin`, and neither a source nor an input of the envelope moves. -/
theorem wakingEntersJoin : Obligations.WakingEntersJoin := by
  intro i s parked _ envelope settled
  refine ⟨fun hf => ?_, ?_⟩
  · have ready : Ready .wake s := ⟨by rw [parked]; decide, by rw [parked]; rfl, hf⟩
    let t := (s.opened.giveWake.enterJoin).respond (Response.plain 16 .done)
    have ht : t = (((s.answered (Response.plain 16 .done)).setLine { s.line with wake :=
          match s.line.wake with
          | some q => some q
          | none => some { frame := s.own, attempt := 1, committed := false } }).setStart { s.start with
            station := .join, discovery := 0, beaconTimer := some (periodMs s.config.period), parkArmed := false }
          |>.setPeers (s.peers.map fun e => { e with heard := false })).setSelector (joined s.config s.selector) := by
      show (s.opened.giveWake.enterJoin).respond _ = _
      rw [State.enterJoin_eq, State.giveWake_eq]; rfl
    refine ⟨t.drivePins, ?_, ?_⟩
    · refine congrArg Host.Outcome.next ?_
      rw [State.takeRequest_of_opened _ ready nofun nofun nofun]
      refine State.handOver_of_woken (t := t) parked ?_ envelope ?_ ?_ <;> rw [ht] <;> rfl
    · have follows : PinsFollow t.drivePins := PinsFollow.drivePins t
      rw [ht] at follows ⊢
      refine ⟨⟨rfl, fun b hb => ?_⟩, rfl, rfl, rfl, rfl, rfl, follows⟩
      revert hb; cases b <;> simp [SameBlock] <;> rfl
  · let population := if i = s.own then s.start.population.set i { s.start.population.get i with clash := 16 }
      else s.start.population
    let t := ((s.setStart { s.start with
          station := .join, discovery := 0, beaconTimer := some (periodMs s.config.period), population := population
          }).setPeers (s.peers.map fun e => { e with heard := false })).setSelector (joined s.config s.selector)
    have woken : (if i = s.own then s.enterJoin.ownClash else s.enterJoin) = t := by
      by_cases hi : i = s.own
      · rw [if_pos hi, State.enterJoin_eq]
        simp only [t, population, if_pos hi]
        rw [hi]; rfl
      · rw [if_neg hi, State.enterJoin_eq]
        simp only [t, population, if_neg hi]
    have sources : t.resolved = s.resolved :=
      State.resolved_congr rfl rfl rfl (fun j => by
          show ((s.peers.map _).get j).state.trusted = _
          rw [Six.get_map]; rfl)
        fun j _ => by
          show ((s.peers.map _).get j).published = _
          rw [Six.get_map]; rfl
    have still : Settled t := ⟨sources.trans settled.1, settled.2⟩
    have finished : s.finish t = t.drivePins := by
      rw [State.finish, State.settle_of_settled still]
      have noPark : s.checkAfterPark t = t := if_neg (by rw [parked]; exact fun h => nomatch h.1)
      rw [noPark]
      exact State.handOver_of_woken parked rfl envelope rfl rfl
    refine ⟨t.drivePins, ?_, ⟨rfl, fun b hb => ?_⟩, rfl, rfl, rfl, PinsFollow.drivePins t⟩
    · refine congrArg Host.Outcome.next ?_
      rw [if_pos parked, State.wakeByFrame]
      exact (congrArg s.finish woken).trans finished
    · revert hb; cases b <;> simp [SameBlock] <;> rfl

end Sys2Proof.Machine
end

section
/-! The seal: the arrivals at the enabled trip inputs, one record of HARD-TRIP for all of them, and the entry to JOIN. -/

namespace Sys2Proof.Machine

/-! ### Arrivals -/

/-- The record of HARD-TRIP after `k` arrivals at the inputs `d` since it was created (R86). -/
def tripRecord (s : State) (k : Nat) (d : BitVec 4) : Record :=
  { code := 1, level := 7, fm := 0, fr := 0, life := .holds, taken := true, count := k,
    firstSeen := s.engine.beaconCount, unread := true, measured := none, detect := some d, folded := none, param := none }

/-- HARD-TRIP taken on the table `rs`, with its ALERT (R18, R93). -/
def State.tripTaken (s : State) (rs : List Record) : State :=
  (s.setEngine { s.engine with
      records := rs, stack := { saved := s.engine.cl, code := 1, level := 7, spent := false } :: s.engine.stack, cl := 7
      }).giveAlert { sender := s.own, ownLevel := 7, claim := { code := 1, level := 7 } }

/-- From `s` to `t` came `k` arrivals at the inputs `d`, the first of them at a table without HARD-TRIP. -/
def TripsTaken (s : State) (k : Nat) (d : BitVec 4) (t : State) : Prop :=
  ∃ rs, t = s.tripTaken rs ∧ findRecord 1 rs = some (tripRecord s k d)
    ∧ ∀ c, c ≠ 1 → findRecord c rs = s.record c

/-- A record of local origin at level 7 is the own level (R103). -/
theorem highestLevel_eq_seven {l : List Record} {r : Record} (h : r ∈ l) (hl : r.level = 7) : highestLevel l = 7 := by
  have le : r.level ≤ highestLevel l := highestLevel_le.1 le_rfl r h
  rw [hl] at le
  exact le_antisymm (Fin.le_last _) le

theorem State.ownLevel_eq_seven {s : State} {c : Nat} {r : Record} (h : s.record c = some r)
    (hc : isLocal c = true) (hl : r.level = 7) : s.ownLevel = 7 := by
  obtain ⟨hm, rfl⟩ := findRecord_some h
  exact highestLevel_eq_seven (List.mem_filter.2 ⟨hm, hc⟩) hl

/-- The first arrival creates and takes the record (R76, R93). -/
theorem TripsTaken.first {s : State} {n : TripInput} (hst : s.station = .config) (ha : s.record 1 = none)
    (hcl : s.engine.cl < 7) : TripsTaken s 1 (detectFlag n) (s.raise (hardTripRaise n)) := by
  have stays : s.abandonAt (hardTripRaise n).level = s := State.abandonAt_of_not_parking (by rw [hst]; decide) _
  let r := (hardTripRaise n).record s.engine.beaconCount
  let rs := mapRecord 1 (fun r => { r with taken := true }) (insertRecord r s.engine.records)
  have found : ∀ c, findRecord c rs = if c = 1 then some { r with taken := true } else s.record c := fun c => by
    have inserted : findRecord c (insertRecord r s.engine.records) = if c = 1 then some r else s.record c :=
      findRecord_insertRecord (r := r) ha c
    rw [findRecord_mapRecord 1 c (g := fun r => { r with taken := true }) (fun _ => rfl), inserted]
    by_cases hc : c = 1 <;> simp [hc]
  have taken : s.raise (hardTripRaise n) = (s.setRecords (insertRecord r s.engine.records)).take 1 7 := by
    rw [State.raise, stays, show s.record (hardTripRaise n).code = none from ha]
    exact if_pos hcl
  refine ⟨rs, ?_, (found 1).trans (if_pos rfl), fun c hc => (found c).trans (if_neg hc)⟩
  let t := (s.setRecords (insertRecord r s.engine.records)).setEngine
    { s.engine with
      records := rs, stack := { saved := s.engine.cl, code := 1, level := 7, spent := false } :: s.engine.stack, cl := 7 }
  have own : t.ownLevel = 7 := State.ownLevel_eq_seven (c := 1) ((found 1).trans (if_pos rfl)) rfl rfl
  have alert : t.alertFor 1 7 = t.giveAlert { sender := t.own, ownLevel := t.ownLevel, claim := { code := 1, level := 7 } } :=
    if_pos (by show (true && true && decide (s.station ≠ .parked)) = true; rw [hst]; rfl)
  rw [taken]
  show t.alertFor 1 7 = _
  rw [alert, own]; rfl

/-- A further arrival is a re-raise (R77, R86). -/
theorem TripsTaken.next {s t : State} {n : TripInput} {k : Nat} {d : BitVec 4} (h : TripsTaken s k d t)
    (hst : s.station = .config) (hk : k < 255) :
    TripsTaken s (k + 1) (d ||| detectFlag n) (t.raise (hardTripRaise n)) := by
  obtain ⟨rs, rfl, trip, others⟩ := h
  have stays : (s.tripTaken rs).abandonAt (hardTripRaise n).level = s.tripTaken rs :=
    State.abandonAt_of_not_parking (by show s.station ≠ .parking; rw [hst]; decide) _
  have present : (s.tripTaken rs).record (hardTripRaise n).code = some (tripRecord s k d) := trip
  have code : ∀ r, (reraised (hardTripRaise n) r).code = r.code := (reraised_blind _).1
  refine ⟨mapRecord 1 (reraised (hardTripRaise n)) rs, ?_, ?_, fun c hc => ?_⟩
  · rw [State.raise, stays, present]; rfl
  · rw [findRecord_mapRecord 1 1 code, if_pos rfl, trip]
    have count : addSat 255 k 1 = k + 1 := by unfold addSat; omega
    exact congrArg some (congrArg (fun m => tripRecord s m (d ||| detectFlag n)) count)
  · rw [findRecord_mapRecord 1 c code, if_neg hc, others c hc]

theorem TripsTaken.rest {s : State} (hst : s.station = .config) (l : List TripInput) :
    ∀ {t : State} {k : Nat} {d : BitVec 4}, TripsTaken s k d t → k + l.length ≤ 255 →
      TripsTaken s (k + l.length) (l.foldl (fun d n => d ||| detectFlag n) d)
        (l.foldl (fun t n => t.raise (hardTripRaise n)) t) := by
  induction l with
  | nil => exact fun h _ => h
  | cons n l ih =>
    intro t k d h hk
    rw [List.length_cons] at hk
    have later := ih (h.next (n := n) hst (by omega)) (by omega)
    rw [List.length_cons, show k + (l.length + 1) = k + 1 + l.length by omega]
    exact later

/-! ### The inputs at the seal -/

/-- The inputs that the seal takes as arrivals, in ascending order (R7). -/
def inputsOf (b : BitVec 4) : List TripInput := [0, 1, 2, 3].filter fun n => b.getLsbD n.val

theorem inputsOf_eq_nil (b : BitVec 4) : inputsOf b = [] ↔ b = 0#4 := by
  revert b; decide

theorem inputsOf_detect (b : BitVec 4) : (inputsOf b).foldl (fun d n => d ||| detectFlag n) 0#4 = b := by
  revert b; decide

theorem inputsOf_length (b : BitVec 4) :
    (inputsOf b).length = ([0, 1, 2, 3].filter fun n => b.getLsbD n).length := by
  revert b; decide

theorem inputsOf_length_le (b : BitVec 4) : (inputsOf b).length ≤ 4 := List.length_filter_le _ _

/-- What the inputs that are tripped raise. -/
def State.raiseTrips (s : State) : State :=
  (inputsOf s.trippedInputs).foldl (fun t n => t.raise (hardTripRaise n)) s

theorem State.tripAtSeal_eq {s t : State} (ht : t.trips = s.trips) (hc : t.config = s.config) (n : TripInput) :
    t.tripAtSeal n = if s.trippedInputs.getLsbD n.val then t.raise (hardTripRaise n) else t := by
  have : (t.tripEnabled n && t.tripLevel n) = s.trippedInputs.getLsbD n.val := by
    rw [tripEnabled, tripLevel, trippedInputs, BitVec.getLsbD_and, ht, hc, Bool.and_comm]
  rw [tripAtSeal, this]

theorem State.foldl_tripAtSeal {s : State} (l : List TripInput) :
    ∀ {t : State}, t.trips = s.trips → t.config = s.config →
      l.foldl State.tripAtSeal t
        = (l.filter fun n => s.trippedInputs.getLsbD n.val).foldl (fun t n => t.raise (hardTripRaise n)) t := by
  induction l with
  | nil => exact fun _ _ => rfl
  | cons n l ih =>
    intro t ht hc
    rw [List.foldl_cons, tripAtSeal_eq ht hc]
    by_cases hn : s.trippedInputs.getLsbD n.val = true
    · have works := Works.raise t (hardTripRaise n)
      rw [if_pos hn, List.filter_cons_of_pos (by simpa using hn), List.foldl_cons]
      exact ih (works.trips.trans ht) (works.config.trans hc)
    · rw [if_neg hn, List.filter_cons_of_neg (by simpa using hn)]
      exact ih ht hc

/-- The arrivals at the seal make one record of HARD-TRIP, or none (R7, R86). -/
theorem State.raiseTrips_of_config {s : State} (hst : s.station = .config) (ha : s.record 1 = none)
    (hcl : s.engine.cl < 7) :
    if s.trippedInputs = 0#4 then s.raiseTrips = s
    else TripsTaken s (inputsOf s.trippedInputs).length s.trippedInputs s.raiseTrips := by
  have length := inputsOf_length_le s.trippedInputs
  have detect := inputsOf_detect s.trippedInputs
  split
  next h => rw [raiseTrips, (inputsOf_eq_nil _).2 h]; rfl
  next h =>
    unfold raiseTrips
    cases hl : inputsOf s.trippedInputs with
    | nil => exact absurd ((inputsOf_eq_nil _).1 hl) h
    | cons n l =>
      rw [hl, List.length_cons] at length
      rw [hl, List.foldl_cons, BitVec.zero_or] at detect
      have rest := TripsTaken.rest hst l (TripsTaken.first (n := n) hst ha hcl) (by omega)
      rw [detect, Nat.add_comm 1] at rest
      exact rest

/-! ### The seal -/

/-- The set as the seal leaves it, before the arrivals (R7). -/
def State.sealedSet (s : State) : State :=
  (s.setConfig { s.config with sealed := true, walk := min s.config.walk s.config.cruise }).setSupervision
    { s.supervision with strict := s.config.strict }

/-- The seal, part by part (R7). -/
theorem State.seal_eq (s : State) :
    s.seal = (s.sealedSet.raiseTrips.setStart { s.sealedSet.raiseTrips.start with window := 0 }).enterJoin := by
  have arrivals : s.sealedSet.raiseTrips = [0, 1, 2, 3].foldl State.tripAtSeal s.sealedSet :=
    (foldl_tripAtSeal (s := s.sealedSet) _ rfl rfl).symm
  rw [arrivals]; rfl

/-- The state at the end of the seal before the handover, with the engine and the line as the arrivals leave them, and
the park acceptor and the link as the sealing request leaves them. -/
def State.sealedWith (s : State) (e : Engine) (l : LineInterface) (p : Bool) (k : Link) : State :=
  let c : ConfigSet := { s.config with sealed := true, walk := min s.config.walk s.config.cruise }
  { s with
    start := { s.start with
      station := .join, window := 0, discovery := 0, beaconTimer := some (periodMs s.config.period), parkArmed := p }
    config := c
    line := l
    peers := s.peers.map fun e => { e with heard := false }
    selector := joined c s.selector
    engine := e
    supervision := { s.supervision with strict := s.config.strict }
    link := k }

/-- The seal in CONFIG, by whether an enabled input is asserted. -/
theorem State.seal_of_config {s : State} (hst : s.station = .config) (ha : s.record 1 = none) (hcl : s.engine.cl < 7)
    (p : Bool) (k : Link) :
    let u : State := { s with start := { s.start with parkArmed := p }, link := k }
    if s.trippedInputs = 0#4 then u.seal = s.sealedWith s.engine s.line p k
    else ∃ t, TripsTaken s (inputsOf s.trippedInputs).length s.trippedInputs t
      ∧ u.seal = s.sealedWith t.engine t.line p k := by
  intro u
  have trips := raiseTrips_of_config (s := u.sealedSet) hst ha hcl
  rw [show u.sealedSet.trippedInputs = s.trippedInputs from rfl] at trips
  rw [seal_eq, enterJoin_eq]
  split
  next h => rw [if_pos h] at trips; rw [trips]; rfl
  next h =>
    rw [if_neg h] at trips
    obtain ⟨rs, taken, trip, others⟩ := trips
    refine ⟨s.tripTaken rs, ⟨rs, rfl, trip, others⟩, ?_⟩
    rw [taken]; rfl

/-- The handover after the seal: in JOIN the suspension flag and the pins alone follow (R105). -/
theorem State.handOver_sealedWith {s : State} (hst : s.station = .config) (he : EnvelopeLaw s) (e : Engine)
    (l : LineInterface) (p : Bool) (k : Link) :
    s.handOver (s.sealedWith e l p k) = (s.followSuspension (s.sealedWith e l p k)).drivePins :=
  handOver_of_fits rfl (he.of_not_running (by rw [hst]; decide) nofun rfl)

/-- The seal in CONFIG, whatever the sealing request makes of the park acceptor and the link. -/
theorem sealed_of_config {s : State} (hst : s.station = .config) (he : EnvelopeLaw s)
    (ha : s.record 1 = none) (hcl : s.engine.cl < 7) {p : Bool} {k k' : Link} {t : State}
    (ht : t = s.handOver (({ s with start := { s.start with parkArmed := p }, link := k } : State).seal.setLink k')) :
    Sealed s t ∧ t.start.parkArmed = p ∧ t.link = k' := by
  have closed := State.seal_of_config hst ha hcl p k
  by_cases h : s.trippedInputs = 0#4
  · rw [if_pos h] at closed
    have done : t = (s.sealedWith s.engine s.line p k').drivePins := by
      rw [ht, closed]
      have same : s.followSuspension (s.sealedWith s.engine s.line p k') = s.sealedWith s.engine s.line p k' :=
        State.followSuspension_of_same rfl
      exact (State.handOver_sealedWith hst he _ _ _ _).trans (congrArg State.drivePins same)
    subst done
    refine ⟨⟨⟨rfl, fun b hb => ?_⟩, rfl, rfl, rfl, Six.get_map _ s.peers, rfl, ?_, PinsFollow.drivePins _⟩, rfl, rfl⟩
    · revert hb; cases b <;> simp [SameBlock] <;> rfl
    · rw [if_pos h]; exact ⟨rfl, rfl, rfl⟩
  · rw [if_neg h] at closed
    obtain ⟨_, ⟨rs, rfl, trip, others⟩, closed⟩ := closed
    let x := s.sealedWith (s.tripTaken rs).engine (s.tripTaken rs).line p k'
    have suspended : s.followSuspension x = x.setIsolation { s.isolation with suspended := true } :=
      if_neg (show s.engine.cl ≠ 7 from ne_of_lt hcl)
    have own : x.ownLevel = 7 := State.ownLevel_eq_seven (c := 1) trip rfl rfl
    have done : t = (x.setIsolation { s.isolation with suspended := true }).drivePins := by
      rw [ht, closed]
      exact (State.handOver_sealedWith hst he _ _ _ _).trans (congrArg State.drivePins suspended)
    subst done
    refine ⟨⟨⟨rfl, fun b hb => ?_⟩, rfl, rfl, rfl, Six.get_map _ s.peers, rfl, ?_, PinsFollow.drivePins _⟩, rfl, rfl⟩
    · revert hb; cases b <;> simp [SameBlock] <;> rfl
    · rw [if_neg h, ← inputsOf_length s.trippedInputs]
      refine ⟨trip, others, ?_, ?_, own, rfl⟩
      · rw [TakenOrWaits, if_pos hcl]; exact ⟨rfl, rfl⟩
      · have given : AlertGiven 1 7 s x := by rw [AlertGiven, own]; rfl
        exact given

/-- The seal leaves the link to the sealing request, and W at most C. -/
theorem State.seal_link {s : State} (hst : s.station = .config) (ha : s.record 1 = none) (hcl : s.engine.cl < 7)
    (p : Bool) (k : Link) :
    let u : State := { s with start := { s.start with parkArmed := p }, link := k }
    u.seal.link = k ∧ u.seal.config.walk = min s.config.walk s.config.cruise := by
  have closed := seal_of_config hst ha hcl p k
  intro u
  split at closed
  next => rw [closed]; exact ⟨rfl, rfl⟩
  next =>
    obtain ⟨t, -, closed⟩ := closed
    rw [closed]; exact ⟨rfl, rfl⟩

/-- The answer to SEAL: the boundary in force where it was adjusted (R6). -/
theorem sealAnswer (cruise walk : Nat) :
    Response.status 2 { boundaryAdjusted := decide (cruise < walk) } (min walk cruise)
      = if cruise < walk then Response.status 2 { boundaryAdjusted := true } cruise else Response.plain 2 .done := by
  by_cases h : cruise < walk
  · rw [if_pos h, decide_eq_true h, Nat.min_eq_right (Nat.le_of_lt h)]
  · rw [if_neg h, decide_eq_false h]; rfl

/-- Settles O8: both ways seal by the same rule. -/
theorem sealEntersJoin : Obligations.SealEntersJoin := by
  intro s
  refine ⟨fun hst hf _ he ha hcl => ⟨?_, ?_⟩, fun hst => congrArg Host.Outcome.next (if_neg hst)⟩
  · have ready : Ready .seal s := ⟨by rw [hst]; decide, by rw [hst]; rfl, hf⟩
    obtain ⟨link, walk⟩ := State.seal_link hst ha hcl false s.opened.link
    refine ⟨_, congrArg Host.Outcome.next ?_,
      sealed_of_config hst he ha hcl (k := s.opened.link) rfl⟩
    rw [State.takeRequest_of_opened _ ready nofun nofun nofun, ← sealAnswer, ← walk]
    let r := Response.status 2 { boundaryAdjusted := decide (s.config.cruise < s.config.walk) } s.opened.seal.config.walk
    have answered : s.opened.seal.respond r = s.opened.seal.setLink (s.linkAfter r false) := by
      rw [State.respond, show s.opened.seal.link = s.opened.link from link]; rfl
    exact congrArg s.handOver answered
  · obtain ⟨link, -⟩ := State.seal_link hst ha hcl s.start.parkArmed s.link
    refine ⟨_, congrArg Host.Outcome.next ?_, sealed_of_config hst he ha hcl (k := s.link) rfl⟩
    refine (if_pos hst).trans (congrArg s.handOver ?_)
    show s.seal = s.seal.setLink s.link
    rw [← show s.seal.link = s.link from link]; rfl

end Sys2Proof.Machine
end

section
/-! The population check and the comparison of the quorum after it, and the stuck line. -/

namespace Sys2Proof.Machine

/-! ### Presenting without a new alert -/

/-- A presentation of synthetic origin gives no ALERT (R102). -/
theorem State.present_line_of_synthetic {s : State} {a : Raise} (hp : s.station ≠ .parking)
    (h : isLocal a.code = false) : (s.present a).line = s.line := by
  unfold present
  split
  next => rfl
  next hr =>
    split
    next => rfl
    next hf =>
      have created : s.raise a = s.createRecord (a.record s.engine.beaconCount) := by
        simp only [raise, abandonAt_of_not_parking hp, hr, raiseAbsent]
        exact if_neg hf
      rw [created]; exact s.createRecord_line_of_synthetic (r := a.record _) h

theorem State.checkCondition_of_same (s : State) (held : Bool) (a : Raise) :
    s.checkCondition held held a = if held then s.present a else s := by
  cases held <;> rfl

theorem State.checkCondition_line_of_same {s : State} {a : Raise} (hp : s.station ≠ .parking)
    (h : isLocal a.code = false) (held : Bool) : (s.checkCondition held held a).line = s.line := by
  rw [checkCondition_of_same]; split
  · exact present_line_of_synthetic hp h
  · rfl

theorem State.checkCondition_bare (s : State) (held now : Bool) {a : Raise} {c : Nat} (h4 : a.code ≠ 4)
    (hc : c ≠ a.code) (hc4 : c ≠ 4) : (s.checkCondition held now a).bare c = s.bare c := by
  unfold checkCondition raiseOrPresent
  repeat' split
  · rw [raise_bare s a hc4, if_neg hc]
  · rw [present_bare s h4, if_neg hc]
  · rw [conditionGone_bare, if_neg hc]
  · rfl

/-! ### The population check -/

/-- The marks of both conditions as a run of the check leaves them (R10). -/
def State.markPopulation (s : State) : State :=
  s.setStart { s.start with
    missingHeld := roleMissing s.start.population, conflictHeld := roleConflict s.start.population }

theorem State.populationCheck_eq (s : State) :
    s.populationCheck =
      (s.markPopulation.checkCondition s.start.missingHeld (roleMissing s.start.population)
        roleMissingRaise).checkCondition s.start.conflictHeld (roleConflict s.start.population) roleConflictRaise := rfl

theorem Works.populationCheck (s : State) : Works s.markPopulation s.populationCheck :=
  (Works.checkCondition ..).trans (.checkCondition ..)

theorem State.populationCheck_bare (s : State) {c : Nat} (h54 : c ≠ 54) (h53 : c ≠ 53) (h4 : c ≠ 4) :
    s.populationCheck.bare c = s.bare c := by
  rw [populationCheck_eq, checkCondition_bare _ _ _ (by decide) h53 h4, checkCondition_bare _ _ _ (by decide) h54 h4]
  rfl

/-- Where neither condition begins or ends the check gives no ALERT. -/
theorem State.populationCheck_line_of_same {s : State} (hp : s.station ≠ .parking)
    (hm : roleMissing s.start.population = s.start.missingHeld)
    (hc : roleConflict s.start.population = s.start.conflictHeld) : s.populationCheck.line = s.line := by
  have still : (s.markPopulation.checkCondition s.start.missingHeld s.start.missingHeld
      roleMissingRaise).station ≠ .parking := by
    rw [(Works.checkCondition s.markPopulation ..).station_eq hp]; exact hp
  have missing : (s.markPopulation.checkCondition s.start.missingHeld s.start.missingHeld
      roleMissingRaise).line = s.line :=
    checkCondition_line_of_same (s := s.markPopulation) hp rfl _
  rw [populationCheck_eq, hm, hc, checkCondition_line_of_same still rfl, missing]

theorem State.checkCondition_isolation (s : State) (held now : Bool) (a : Raise) :
    (s.checkCondition held now a).isolation = s.isolation := by
  unfold checkCondition raiseOrPresent present
  repeat' split
  · exact s.raise_isolation a
  · rfl
  · rfl
  · exact s.raise_isolation a
  · rfl
  · rfl

theorem State.populationCheck_isolation (s : State) : s.populationCheck.isolation = s.isolation := by
  rw [populationCheck_eq, checkCondition_isolation, checkCondition_isolation]; rfl

/-! ### The quorum -/

theorem State.effectiveQuorum_eq (s : State) : s.effectiveQuorum = quorumOf s := by
  have : s.trustedPeers.length = counted s stations := rfl
  rw [effectiveQuorum, quorumOf, this]
  split
  · rw [Nat.min_eq_right (by omega)]
  · rw [Nat.min_eq_left (by omega)]

theorem counted_map {α : Type} (s : State) (f : α → Station) (l : List α) :
    (l.filter fun p => (s.peer (f p)).state.trusted).length = counted s (l.map f) := by
  rw [counted, List.filter_map, List.length_map]; rfl

/-- Short of the quorum the comparison does nothing (R141, R144). -/
theorem State.compareQuorum_of_short {s : State} (h : QuorumShort s) : s.compareQuorum = s := by
  obtain ⟨active, rejoining⟩ := h
  unfold compareQuorum
  rw [effectiveQuorum_eq, countedCease, countedReadmit, counted_map s CeasePlace.sender,
    counted_map s ReadmitPlace.sender]
  split
  next =>
    split
    next ha => exact if_neg (not_le.2 (active ha))
    next hr => exact if_neg (not_le.2 (rejoining hr))
    next => rfl
  next => rfl

/-- What the comparison is made of. -/
theorem QuorumShort.congr {s t : State} (h : QuorumShort s) (hi : t.isolation = s.isolation)
    (hp : ∀ i, t.peer i = s.peer i) (hc : t.config = s.config) : QuorumShort t := by
  have same : ∀ l, counted t l = counted s l := fun l => by simp only [counted, hp]
  have quorum : quorumOf t = quorumOf s := by simp only [quorumOf, same, hc]
  rw [QuorumShort, hi, same, same, quorum]; exact h

end Sys2Proof.Machine
end

section
/-! The stuck line: it sticks, is released and clears. -/

namespace Sys2Proof.Machine

theorem OnlyChanges.setLine (s : State) (l : LineInterface) : OnlyChanges [.line] s (s.setLine l) :=
  ⟨rfl, fun b hb => by revert hb; cases b <;> simp [SameBlock]⟩

/-- Nothing is offered on a line that is stuck (R30). -/
theorem State.offered_of_stuck {s : State} (h : s.line.stuck = .stuck) : s.offered = none := by
  simp [offered, h]

theorem settled_setLine {s : State} (h : Settled s) (l : LineInterface) : Settled (s.setLine l) := h

/-- A handling that changes the line alone has nothing to hand over. -/
theorem State.finish_setLine {s : State} (h : Settled s) (hp : PinsFollow s) (l : LineInterface) :
    s.finish (s.setLine l) = s.setLine l :=
  (finish_of_settled (settled_setLine h l) rfl).trans (handOver_of_follow rfl rfl rfl rfl hp)

/-- The state in which LINE-STUCK is raised (R29, R30). -/
def State.stopped (s : State) : State := s.setLine { s.line.stopSending with stuck := .stuck }

theorem State.stick_of_clear {s : State} (h : s.line.stuck = .clear) : s.stick = s.stopped.raise stuckRaise := by
  unfold stick; rw [h]; rfl

theorem execLineStuck_of_onLine {s : State} (h : s.station.onLine = true) :
    exec .lineStuck s = .next (s.finish s.stick) := congrArg Host.Outcome.next (if_pos h)

/-- LINE-STUCK in a station state without a park to abandon. -/
theorem stuck_out_of_parking {s : State} (still : Settled s) (hp : s.station ≠ .parking) (hc : s.line.stuck = .clear)
    (ha : s.record 51 = none) (hf : s.generalFull = false) {t : State} (ht : t = s.finish s.stick) :
    OnlyChanges [.line, .isolation, .engine, .envelope, .pins] s t
      ∧ t.line = { s.line.stopSending with stuck := .stuck }
      ∧ t.offered = none
      ∧ PartRaised { code := 51, level := 6, fm := 0, fr := 128 } s t
      ∧ HandedOver s t := by
  have works : Works s.stopped (s.stopped.raise stuckRaise) := .raise ..
  have raised : s.stopped.raise stuckRaise = s.stopped.createRecord (stuckRaise.record s.engine.beaconCount) :=
    State.raise_of_absent (s := s.stopped) (.inl hp) ha hf
  have line : (s.stopped.raise stuckRaise).line = { s.line.stopSending with stuck := .stuck } := by
    rw [raised]; exact s.stopped.createRecord_line_of_synthetic rfl
  have done : t = s.handOver (s.stopped.raise stuckRaise) := by
    rw [ht, State.stick_of_clear hc]
    exact State.finish_of_settled (works.settled still) (works.station_eq hp)
  have line' : t.line = { s.line.stopSending with stuck := .stuck } := by rw [done, State.handOver_line, line]
  refine ⟨?_, line', State.offered_of_stuck (by rw [line']), ?_, ?_⟩
  · rw [done]
    exact .trans ((OnlyChanges.setLine s _).mono (by decide)) (works.onlyChanges_handOver hp s (by decide))
  · rw [done]
    exact (PartRaised.of_absent (s := s.stopped) (a := stuckRaise) (.inl hp) ha hf rfl (by decide) (by decide)).of_engine
      rfl (by simp) (by simp) (by simp)
  · rw [done]; exact works.handedOver rfl rfl rfl rfl rfl rfl hp

/-- The state that LINE-STUCK leaves of a park, before its record is created (R30, R166). -/
def State.unparked (s : State) : State :=
  { s with
    start := { s.start with station := .run }
    line := { s.line.stopSending with
      stuck := .stuck, parkingWaiting := none
      beacon :=
        match s.line.stopSending.beacon with
        | some q => if q.frame.beacon.flags.parking then none else some q
        | none => none }
    link := { s.link with responses := s.link.responses ++ [Response.plain 15 .unavailable] } }

/-- Sending has stopped, so no parking beacon is committed and the one in the slot goes (R30, R166). -/
theorem State.abandonPark_stopped {s : State} (hp : s.station = .parking) : s.stopped.abandonPark = s.unparked := by
  rw [abandonPark_of_parking (s := s.stopped) hp]
  obtain ⟨_, _, _, line, _, _, _, _, _, _, _, _, _⟩ := s
  cases hb : line.beacon with
  | none => simp [stopped, unparked, hold, LineInterface.hold, HeldFrames.withdrawParking, LineInterface.stopSending, hb]; rfl
  | some q => simp [stopped, unparked, hold, LineInterface.hold, HeldFrames.withdrawParking, LineInterface.stopSending, hb]; rfl

/-- A raise of an absent code for which a slot is free, whether or not it abandons a park (R76, R166). -/
theorem State.raise_of_absent_abandoning {s : State} {a : Raise} (ha : s.record a.code = none)
    (hf : s.generalFull = false) : s.raise a = (s.abandonAt a.level).createRecord (a.record s.engine.beaconCount) := by
  have free : (s.abandonAt a.level).generalFull = false := by rw [generalFull_of_engine (abandonAt_engine ..)]; exact hf
  simp only [raise, abandonAt_record, ha, raiseAbsent, free, Bool.and_false, Bool.false_eq_true, if_false, abandonAt_engine]

/-- The record of LINE-STUCK as it is created (R76). -/
def State.stuckRecord (s : State) : Record := stuckRaise.record s.engine.beaconCount

theorem State.stick_of_parking {s : State} (hp : s.station = .parking) (hc : s.line.stuck = .clear)
    (ha : s.record 51 = none) (hf : s.generalFull = false) : s.stick = s.unparked.createRecord s.stuckRecord := by
  rw [stick_of_clear hc, raise_of_absent_abandoning (s := s.stopped) (a := stuckRaise) ha hf, ← abandonPark_stopped hp]; rfl

theorem OnlyChanges.markPopulation (s : State) : OnlyChanges [.start] s s.markPopulation :=
  ⟨rfl, fun b hb => by revert hb; cases b <;> simp [SameBlock] <;> rfl⟩

/-- LINE-STUCK in PARKING abandons the park (R29, R30, R166). -/
theorem stuck_in_parking {s : State} (still : Settled s) (hp : s.station = .parking) (hc : s.line.stuck = .clear)
    (ha : s.record 51 = none) (hf : s.generalFull = false) {t : State} (ht : t = s.finish s.stick) :
    OnlyChanges [.start, .line, .isolation, .engine, .envelope, .link, .pins] s t
      ∧ t.start = { s.start with
          station := .run
          missingHeld := roleMissing s.start.population, conflictHeld := roleConflict s.start.population }
      ∧ t.link = { s.link with responses := s.link.responses ++ [Response.plain 15 .unavailable] }
      ∧ t.line = { s.line.stopSending with
          stuck := .stuck, alerts := t.line.alerts, parkingWaiting := none
          beacon :=
            match s.line.stopSending.beacon with
            | some q => if q.frame.beacon.flags.parking then none else some q
            | none => none }
      ∧ t.offered = none
      ∧ untaken (t.record 51) = some (createdBy { code := 51, level := 6, fm := 0, fr := 128 } t)
      ∧ (roleMissing s.start.population = s.start.missingHeld →
          roleConflict s.start.population = s.start.conflictHeld → QuorumShort s →
            t.line.alerts = s.line.stopSending.alerts
              ∧ t.isolation = { s.isolation with suspended := t.isolation.suspended })
      ∧ HandedOver s t := by
  let u := s.unparked
  let v := u.createRecord s.stuckRecord
  let w := v.populationCheck.compareQuorum
  have unparked : OnlyChanges [.start, .line, .link] s u :=
    ⟨rfl, fun b hb => by revert hb; cases b <;> simp [SameBlock, u, State.unparked]⟩
  have ne : u.station ≠ .parking := nofun
  have created : Works u v := (EngineStep.createRecord u (r := s.stuckRecord) ha fun _ => hf).works
  have ne' : v.station ≠ .parking := by rw [created.station_eq ne]; exact ne
  have checked : Works v.markPopulation w := (Works.populationCheck v).trans (.compareQuorum _)
  have still' : Settled v := by
    have sources : u.resolved = s.resolved := State.resolved_congr rfl rfl rfl (fun _ => rfl) fun _ _ => rfl
    exact created.settled ⟨sources.trans still.1, still.2⟩
  have done : t = s.handOver w := by
    have abandoned : s.station = .parking ∧ v.station = .run := ⟨hp, created.station_eq ne⟩
    rw [ht, State.stick_of_parking hp hc ha hf, State.finish, State.settle_of_settled still', State.checkAfterPark,
      if_pos abandoned]
  have line : v.line = u.line := u.createRecord_line_of_synthetic rfl
  have start : w.start = { s.start with
      station := .run
      missingHeld := roleMissing s.start.population, conflictHeld := roleConflict s.start.population } := by
    rw [checked.start_eq ne', State.markPopulation, created.start_eq ne]; rfl
  obtain ⟨g, lines⟩ := checked.line_eq ne'
  have shape : w.line = { u.line with alerts := w.line.alerts } := by
    have held : w.line = u.line.hold (HeldFrames.onAlerts g) := lines.trans (congrArg (LineInterface.hold · _) line)
    rw [held]; rfl
  rw [done]
  refine ⟨?_, (State.handOver_start ..).trans start, ?_, ?_, ?_, ?_, fun hm hr hq => ?_, ?_⟩
  · have first : OnlyChanges [.start, .line, .isolation, .engine, .envelope, .link, .pins] s v :=
      (unparked.mono (by decide)).trans ((created.onlyChanges ne).mono (by decide))
    exact (first.trans ((OnlyChanges.markPopulation v).mono (by decide))).trans
      (checked.onlyChanges_handOver ne' s (by decide))
  · rw [State.handOver_link, checked.link_eq ne']
    exact created.link_eq ne
  · rw [State.handOver_line, shape]; rfl
  · exact State.offered_of_stuck (by rw [State.handOver_line, shape]; rfl)
  · have record : w.bare 51 = some s.stuckRecord := by
      rw [State.compareQuorum_bare _ (by decide), State.populationCheck_bare _ (by decide) (by decide) (by decide)]
      exact State.createRecord_bare (r := s.stuckRecord) u ha 51
    have count : w.engine.beaconCount = s.engine.beaconCount := checked.counts.1.trans created.counts.1
    show (s.handOver w).bare 51 = _
    rw [State.handOver_bare, record, createdBy, State.handOver_beaconCount, count]; rfl
  · have population : v.start.population = s.start.population := by rw [created.start_eq ne]; rfl
    have marks : v.start.missingHeld = s.start.missingHeld ∧ v.start.conflictHeld = s.start.conflictHeld := by
      rw [created.start_eq ne]; exact ⟨rfl, rfl⟩
    have alike : v.populationCheck.line = v.line := State.populationCheck_line_of_same ne'
      (by rw [population, marks.1, hm]) (by rw [population, marks.2, hr])
    have isolation : v.populationCheck.isolation = s.isolation := by
      rw [State.populationCheck_isolation]
      exact (EngineStep.createRecord u (r := s.stuckRecord) ha fun _ => hf).isolation
    have short : QuorumShort v.populationCheck := hq.congr isolation
      (fun i => ((Works.populationCheck v).peer i).trans (created.peer i))
      ((Works.populationCheck v).config.trans created.config)
    have same : w = v.populationCheck := State.compareQuorum_of_short short
    rw [State.handOver_line, State.handOver_isolation, same, alike, line, isolation]
    exact ⟨rfl, rfl⟩
  · have envelope : w.envelope = s.envelope := checked.envelope.trans created.envelope
    have suspended : w.isolation.suspended = s.isolation.suspended :=
      checked.isolation.2.2.1.trans created.isolation.2.2.1
    refine HandedOver.of_contactor envelope suspended (ContactorFollows.of_abandoned ?_ ?_ ?_ hp ?_)
    · exact checked.counts.2.1.trans created.counts.2.1
    · exact checked.counts.2.2.trans created.counts.2.2
    · rw [start]
    · rw [State.station, start]

/-- The end of the condition is handed to no block (R80). -/
theorem finish_unstuck {s : State} (still : Settled s) (pins : PinsFollow s) {l : LineInterface} :
    s.finish ((s.setLine l).conditionGone 51) = (s.setLine l).conditionGone 51 := by
  have works : Works (s.setLine l) ((s.setLine l).conditionGone 51) := .conditionGone ..
  have settled : Settled ((s.setLine l).conditionGone 51) := works.settled (settled_setLine still l)
  have follow : PinsFollow (s.setLine l) := pins
  have station : ((s.setLine l).conditionGone 51).station = s.station := rfl
  exact (State.finish_of_settled settled station).trans
    (State.handOver_of_follow rfl rfl rfl ((s.setLine l).conditionGone_inputs 51) (follow.conditionGone 51))

/-- Settles O53: in each state of the line, and for LINE-STUCK by whether it abandons a park. -/
theorem stuckLineComesAndGoes : Obligations.StuckLineComesAndGoes := by
  intro s onLine still
  refine ⟨fun hp hc ha hf => ⟨_, execLineStuck_of_onLine onLine, stuck_out_of_parking still hp hc ha hf rfl⟩,
    fun hp hc ha hf => ⟨_, execLineStuck_of_onLine onLine, stuck_in_parking still hp hc ha hf rfl⟩,
    fun n hn pins => ?_, fun hc => congrArg Host.Outcome.next (if_pos hc), fun n hn pins => ?_⟩
  · have again : s.stick = s.setLine { s.line with stuck := .stuck } := by unfold State.stick; rw [hn]; rfl
    rw [execLineStuck_of_onLine onLine, again, State.finish_setLine still pins]; rfl
  · let u := s.setLine { s.line with stuck := .clear }
    have released : s.released = true := by rw [State.released, hn]
    have finished : s.finish (u.conditionGone 51) = u.conditionGone 51 := finish_unstuck still pins
    refine ⟨u.conditionGone 51, congrArg Host.Outcome.next ((if_pos released).trans finished), ⟨rfl, fun b hb => ?_⟩,
      rfl, (ConditionEnds.conditionGone u 51).of_engine rfl rfl rfl rfl, rfl⟩
    revert hb; cases b <;> simp [SameBlock] <;> rfl

end Sys2Proof.Machine
end

section
/-! The course of a handling: what every part of it leaves alone before the handover, whatever the peer view, the
selector, the isolation unit, the directive queue and the containment engine do. -/

namespace Sys2Proof.Machine

/-- The peer view, the selector, the isolation unit and the directive queue replaced. -/
def State.revised (s : State) (p : Six PeerEntry) (x : Selector) (u : Isolation) (d : List (Queued Directive)) : State :=
  { s with line := { s.line with directives := d }, peers := p, selector := x, isolation := u }

/-- From `s` to `t` a handling has gone on: the peer view, the selector, the isolation unit and the directive queue may
have changed, the engine may have worked and a park may have been abandoned. The own values and the suspension flag have
stayed, and no peer has joined the rejoin queue. -/
def Course (s t : State) : Prop :=
  ∃ p x u d, x.own = s.selector.own ∧ u.suspended = s.isolation.suspended
    ∧ (∀ i ∈ u.queue, i ∈ s.isolation.queue)
    ∧ (EngineStep (s.revised p x u d) t ∨ EngineStep (s.abandonPark.revised p x u d) t)

theorem State.abandonPark_revised (s : State) (p : Six PeerEntry) (x : Selector) (u : Isolation)
    (d : List (Queued Directive)) : (s.revised p x u d).abandonPark = s.abandonPark.revised p x u d := by
  by_cases h : s.station = .parking
  · have h' : (s.revised p x u d).station = .parking := h
    rw [abandonPark_of_parking h', abandonPark_of_parking h]; rfl
  · have h' : (s.revised p x u d).station ≠ .parking := h
    rw [abandonPark_of_not_parking h', abandonPark_of_not_parking h]

theorem EngineStep.revised {s t : State} (h : EngineStep s t) (p : Six PeerEntry) (x : Selector) (u : Isolation)
    (d : List (Queued Directive)) : EngineStep (s.revised p x u d) (t.revised p x u d) := by
  obtain ⟨e, g, rfl, hs⟩ := h
  exact ⟨e, g, rfl, hs⟩

theorem Works.course {s t : State} (h : Works s t) : Course s t := by
  obtain ⟨u, ⟨hqueue, -, hsus, -⟩, he⟩ := h
  refine ⟨s.peers, s.selector, u, s.line.directives, rfl, hsus, hqueue ▸ fun _ h => h, he.imp id fun h => ?_⟩
  have same : s.abandonPark.setIsolation u = s.abandonPark.revised s.peers s.selector u s.line.directives := by
    by_cases hp : s.station = .parking
    · rw [State.abandonPark_of_parking hp]; rfl
    · rw [State.abandonPark_of_not_parking hp]; rfl
  rw [← same]; exact h

theorem Course.refl (s : State) : Course s s := (Works.refl s).course

theorem Course.revise (s : State) {p : Six PeerEntry} {x : Selector} {u : Isolation} {d : List (Queued Directive)}
    (hx : x.own = s.selector.own) (hu : u.suspended = s.isolation.suspended)
    (hq : ∀ i ∈ u.queue, i ∈ s.isolation.queue) : Course s (s.revised p x u d) :=
  ⟨p, x, u, d, hx, hu, hq, .inl (.refl _)⟩

theorem Course.setPeers (s : State) (p : Six PeerEntry) : Course s (s.setPeers p) :=
  Course.revise s (p := p) (x := s.selector) (u := s.isolation) (d := s.line.directives) rfl rfl
    fun _ h => h

theorem Course.setPeer (s : State) (i : Station) (e : PeerEntry) : Course s (s.setPeer i e) := .setPeers s _

theorem Course.setSelector (s : State) {x : Selector} (h : x.own = s.selector.own) : Course s (s.setSelector x) :=
  Course.revise s (p := s.peers) (u := s.isolation) (d := s.line.directives) h rfl fun _ h => h

theorem Course.setIsolation (s : State) {u : Isolation} (h : u.suspended = s.isolation.suspended)
    (hq : ∀ i ∈ u.queue, i ∈ s.isolation.queue) : Course s (s.setIsolation u) :=
  Course.revise s (p := s.peers) (x := s.selector) (d := s.line.directives) rfl h hq

theorem EngineStep.selector {s t : State} (h : EngineStep s t) : t.selector = s.selector := by
  obtain ⟨e, g, rfl, -⟩ := h; rfl

theorem Course.own {s t : State} (h : Course s t) : t.selector.own = s.selector.own := by
  obtain ⟨p, x, u, d, hx, -, -, he | he⟩ := h
  · rw [he.selector]; exact hx
  · rw [he.selector]; exact hx

theorem Course.suspended {s t : State} (h : Course s t) : t.isolation.suspended = s.isolation.suspended := by
  obtain ⟨p, x, u, d, -, hu, -, he | he⟩ := h
  · rw [he.isolation]; exact hu
  · rw [he.isolation]; exact hu

theorem Course.queue {s t : State} (h : Course s t) : ∀ i ∈ t.isolation.queue, i ∈ s.isolation.queue := by
  obtain ⟨p, x, u, d, -, -, hq, he | he⟩ := h
  · rw [he.isolation]; exact hq
  · rw [he.isolation]; exact hq

theorem Course.trans {s t v : State} (h : Course s t) (h' : Course t v) : Course s v := by
  have own := h.own
  have suspended := h.suspended
  have queue := h.queue
  obtain ⟨p, x, u, d, -, -, -, he⟩ := h
  obtain ⟨p', x', u', d', hx, hu, hq, he'⟩ := h'
  refine ⟨p', x', u', d', hx.trans own, hu.trans suspended, fun i hi => queue i (hq i hi), ?_⟩
  rcases he with he | he <;> rcases he' with he' | he'
  · exact .inl ((he.revised p' x' u' d').trans he')
  · refine .inr (EngineStep.trans ?_ he')
    have := he.abandonPark.revised p' x' u' d'
    rwa [State.abandonPark_revised] at this
  · exact .inr ((he.revised p' x' u' d').trans he')
  · refine .inr (EngineStep.trans ?_ he')
    have := he.abandonPark.revised p' x' u' d'
    rwa [State.abandonPark_revised, State.abandonPark_idem] at this

/-! ### What it leaves alone -/

section
variable {s t : State} (h : Course s t)
include h

theorem Course.shell : t.shell = s.shell := by
  obtain ⟨p, x, u, d, -, -, -, ⟨e, g, rfl, -⟩ | ⟨e, g, rfl, -⟩⟩ := h
  · rfl
  · exact s.abandonPark_shell

theorem Course.config : t.config = s.config := shell_config h.shell
theorem Course.envelope : t.envelope = s.envelope := shell_envelope h.shell
theorem Course.pending : t.pending = s.pending := shell_pending h.shell
theorem Course.trips : t.trips = s.trips := shell_trips h.shell
theorem Course.pins : t.pins = s.pins := congrArg Shell.pins h.shell
theorem Course.straps : t.start.straps = s.start.straps := congrArg Shell.straps h.shell
theorem Course.own_station : t.own = s.own := by rw [State.own, h.straps]; rfl

theorem Course.supervision : t.supervision = s.supervision := by
  obtain ⟨p, x, u, d, -, -, -, ⟨e, g, rfl, -⟩ | ⟨e, g, rfl, -⟩⟩ := h
  · rfl
  · show s.abandonPark.supervision = s.supervision
    unfold State.abandonPark; split <;> rfl

/-- The engine's counts and the contactor sequence. -/
theorem Course.counts : t.engine.beaconCount = s.engine.beaconCount ∧ t.engine.contactor = s.engine.contactor
    ∧ t.engine.releaseCount = s.engine.releaseCount := by
  obtain ⟨p, x, u, d, -, -, -, ⟨e, g, rfl, hb, hc, hr, -⟩ | ⟨e, g, rfl, hb, hc, hr, -⟩⟩ := h
  · exact ⟨hb, hc, hr⟩
  · have engine : (s.abandonPark.revised p x u d).engine = s.engine := s.abandonPark_engine
    rw [engine] at hb hc hr; exact ⟨hb, hc, hr⟩

theorem Course.table (ht : TableLaw s.engine.records) : TableLaw t.engine.records := by
  obtain ⟨p, x, u, d, -, -, -, ⟨e, g, rfl, -, -, -, hk⟩ | ⟨e, g, rfl, -, -, -, hk⟩⟩ := h
  · exact hk ht
  · have engine : (s.abandonPark.revised p x u d).engine = s.engine := s.abandonPark_engine
    rw [engine] at hk; exact hk ht

/-- Start control, where it is not the park that is abandoned. -/
theorem Course.start : t.start = s.start ∨ s.station = .parking ∧ t.start = { s.start with station := .run } := by
  obtain ⟨p, x, u, d, -, -, -, ⟨e, g, rfl, -⟩ | ⟨e, g, rfl, -⟩⟩ := h
  · exact .inl rfl
  · by_cases hp : s.station = .parking
    · rw [State.abandonPark_of_parking hp]; exact .inr ⟨hp, rfl⟩
    · rw [State.abandonPark_of_not_parking hp]; exact .inl rfl

theorem Course.riding : t.station.riding = s.station.riding := by
  rcases h.start with hs | ⟨hp, hs⟩
  · rw [State.station, hs]; rfl
  · rw [State.station, hs, hp]; rfl

theorem Course.onLine : t.station.onLine = s.station.onLine := by
  rcases h.start with hs | ⟨hp, hs⟩
  · rw [State.station, hs]; rfl
  · rw [State.station, hs, hp]; rfl

/-- Start control but for the station state. -/
theorem Course.start_but_station : t.start = { s.start with station := t.station } := by
  rcases h.start with hs | ⟨hp, hs⟩
  · rw [State.station, hs]
  · rw [State.station, hs]

/-- The line but for the alert queue, the directive queue and a parking beacon. -/
theorem Course.slot (hw : s.line.parkingWaiting = none)
    (hb : ∀ q ∈ s.line.beacon, q.frame.beacon.flags.parking = false) :
    t.line.parkingWaiting = none ∧ t.line.beacon = s.line.beacon := by
  obtain ⟨p, x, u, d, -, -, -, ⟨e, g, rfl, -⟩ | ⟨e, g, rfl, -⟩⟩ := h
  · exact ⟨hw, rfl⟩
  · by_cases hp : s.station = .parking
    · rw [State.abandonPark_of_parking hp]
      refine ⟨rfl, ?_⟩
      show HeldFrames.beacon (HeldFrames.withdrawParking s.line.toHeldFrames) = _
      cases hq : s.line.beacon with
      | none => simp [HeldFrames.withdrawParking, hq]
      | some q => simp [HeldFrames.withdrawParking, hq, hb q hq]
    · rw [State.abandonPark_of_not_parking hp]; exact ⟨hw, rfl⟩

variable (hp : s.station ≠ .parking)
include hp

theorem Course.start_eq : t.start = s.start := h.start.resolve_right fun hs => hp hs.1

theorem Course.station_eq : t.station = s.station := by rw [State.station, h.start_eq hp]; rfl

theorem Course.link_eq : t.link = s.link := by
  obtain ⟨p, x, u, d, -, -, -, he⟩ := h
  rw [State.abandonPark_of_not_parking hp, or_self] at he
  obtain ⟨e, g, rfl, -⟩ := he; rfl

theorem Course.onlyChanges : OnlyChanges [.line, .peers, .selector, .isolation, .engine] s t := by
  refine ⟨h.pending, fun b hb => ?_⟩
  cases b
  case start => exact h.start_eq hp
  case config => exact h.config
  case line => exact absurd (by decide) hb
  case peers => exact absurd (by decide) hb
  case selector => exact absurd (by decide) hb
  case isolation => exact absurd (by decide) hb
  case engine => exact absurd (by decide) hb
  case envelope => exact h.envelope
  case supervision => exact h.supervision
  case link => exact h.link_eq hp
  case trips => exact h.trips
  case pins => exact h.pins

/-- A handling within one station state is handed over by the rules of R105. -/
theorem Course.handedOver {s0 : State} (he : s.envelope = s0.envelope)
    (hs : s.isolation.suspended = s0.isolation.suspended) (hc : s.engine.contactor = s0.engine.contactor)
    (hr : s.engine.releaseCount = s0.engine.releaseCount) (hk : s.start.straps = s0.start.straps)
    (hst : s.station = s0.station) : HandedOver s0 (s0.handOver t) := by
  obtain ⟨-, hcon, hrel⟩ := h.counts
  exact HandedOver.handOver (h.envelope.trans he) (h.suspended.trans hs) (hcon.trans hc) (hrel.trans hr)
    (h.straps.trans hk) ((h.station_eq hp).trans hst)

end

/-! ### The records and the isolation of an entry -/

theorem Works.evalDown (s : State) (i : Station) (e e' : PeerEntry) : Works s (s.evalDown i e e') := by
  unfold State.evalDown; repeat' split
  · exact .refl s
  · exact .raise s _
  · exact .conditionGone s _
  · exact .refl s

theorem Works.adoptLevel (s : State) (i : Station) (l : Option Level) : Works s (s.adoptLevel i l) := by
  unfold State.adoptLevel
  split
  · exact .refl s
  · exact .raise s _
  · split
    · exact .conditionGone s _
    · exact .refl s
  · split
    · exact .replace s _
    · split
      · split
        · exact .conditionGone s _
        · exact .refl s
      · split
        · exact .raise s _
        · exact .refl s

theorem Works.evalPosture (s : State) (i : Station) (e e' : PeerEntry) : Works s (s.evalPosture i e e') := by
  unfold State.evalPosture; split
  · exact .refl s
  · exact .adoptLevel s i _

theorem Works.evalMismatch (s : State) (i : Station) (e e' : PeerEntry) : Works s (s.evalMismatch i e e') :=
  .conditionNow s _ _ _

theorem Works.compareAtTrust (s : State) (e e' : PeerEntry) : Works s (s.compareAtTrust e e') := by
  unfold State.compareAtTrust; split
  · exact .refl s
  · exact .compareQuorum s

theorem Works.presentPosture (s : State) (i : Station) : Works s (s.presentPosture i) := by
  unfold State.presentPosture; split
  · exact .present s _
  · exact .refl s

/-- The entry of a peer replaced, and the peer off the readmit-owed list where it leaves LIVE and SUSPECT (R152). -/
def State.entered (s : State) (i : Station) (e' : PeerEntry) : State := (s.setPeer i e').leaveOwed i (s.peer i) e'

theorem Works.updatePeer (s : State) (i : Station) (e' : PeerEntry) : Works (s.entered i e') (s.updatePeer i e') :=
  (((Works.evalDown (s.entered i e') i (s.peer i) e').trans (.evalPosture ..)).trans (.evalMismatch ..)).trans
    (.compareAtTrust ..)

theorem Works.hearPeer (s : State) (i : Station) (e' : PeerEntry) : Works (s.entered i e') (s.hearPeer i e') :=
  (Works.updatePeer s i e').trans (.presentPosture ..)

/-- The readmit-owed list after the entry of peer `i` is replaced (R152). -/
theorem State.entered_isolation (s : State) (i : Station) (e' : PeerEntry) :
    (s.entered i e').isolation = { s.isolation with
      owed := if (s.peer i).state.trusted && !e'.state.trusted then s.isolation.owed.filter fun j => j != i
        else s.isolation.owed } := by
  unfold entered leaveOwed; split <;> rfl

@[simp] theorem State.entered_peers (s : State) (i : Station) (e' : PeerEntry) :
    (s.entered i e').peers = s.peers.set i e' := by
  unfold entered leaveOwed; split <;> rfl

theorem Course.entered (s : State) (i : Station) (e' : PeerEntry) : Course s (s.entered i e') := by
  unfold State.entered State.leaveOwed; split
  · exact (Course.setPeer s i e').trans (.setIsolation _ rfl fun _ h => h)
  · exact .setPeer s i e'

theorem Course.updatePeer (s : State) (i : Station) (e' : PeerEntry) : Course s (s.updatePeer i e') :=
  (Course.entered s i e').trans (Works.updatePeer s i e').course

theorem Course.hearPeer (s : State) (i : Station) (e' : PeerEntry) : Course s (s.hearPeer i e') :=
  (Course.entered s i e').trans (Works.hearPeer s i e').course

theorem Course.mute (s : State) (i : Station) (r : MuteReason) : Course s (s.mute i r) := .updatePeer s i _

theorem Course.reportScore (s : State) (i : Station) : Course s (s.reportScore i) := by
  unfold State.reportScore; simp only; split
  · exact .mute s i _
  · exact .refl s

theorem Course.reportSelfContained (s : State) (i : Station) : Course s (s.reportSelfContained i) := by
  unfold State.reportSelfContained; simp only; split
  · exact .mute s i _
  · exact .refl s

theorem Course.updateScored (s : State) (i : Station) (e' : PeerEntry) : Course s (s.updateScored i e') :=
  (Course.updatePeer s i _).trans (.reportScore _ i)

theorem Course.hearScored (s : State) (i : Station) (e' : PeerEntry) : Course s (s.hearScored i e') :=
  (Course.hearPeer s i _).trans (.reportScore _ i)

theorem Course.crossCharge (s : State) (i : Station) : Course s (s.crossCharge i) := by
  unfold State.crossCharge; simp only; split
  · exact .updateScored s i _
  · exact .refl s

theorem Course.failProbation (s : State) (i : Station) : Course s (s.failProbation i) :=
  (Course.mute s i _).trans (.setIsolation _ rfl fun _ h => (List.mem_filter.1 h).1)

theorem Course.startProbation (s : State) : Course s s.startProbation := by
  have started : ∀ (p : Option Probation) (i : Station) (e : PeerEntry),
      Course s ((s.setIsolation { s.isolation with probation := p }).updatePeer i e) := fun p i e =>
    (Course.setIsolation s (u := { s.isolation with probation := p }) rfl fun _ h => h).trans (Course.updatePeer _ i e)
  unfold State.startProbation; split
  · split
    · exact started ..
    · exact .refl s
  · exact .refl s

theorem Course.giveDirective (s : State) (d : Directive) : Course s (s.giveDirective d) :=
  Course.revise s (p := s.peers) (x := s.selector) (u := s.isolation) rfl rfl fun _ h => h

theorem Course.giveReadmit (s : State) (i : Station) : Course s (s.giveReadmit i) := by
  unfold State.giveReadmit; split
  · exact .setIsolation s rfl fun _ h => h
  · exact .setIsolation s rfl fun _ h => h
  · exact (Course.giveDirective s _).trans (.setIsolation _ rfl fun _ h => h)

/-! ### The served values -/

theorem Course.recordServed (s : State) (v : ServedValues) : Course s (s.recordServed v) := by
  unfold State.recordServed State.workBand; simp only; split
  · exact (Course.setSelector s rfl).trans (.setSelector _ rfl)
  · exact .setSelector s rfl

theorem Course.checkSpeedUnknown (s : State) : Course s s.checkSpeedUnknown :=
  (Course.setSelector s (x := { s.selector with speedUnknown := s.speedMissing }) rfl).trans
    (Works.conditionNow ..).course

theorem Course.checkCharge (s : State) : Course s s.checkCharge :=
  (Course.setSelector s (x := { s.selector with chargeHolds := s.charging }) rfl).trans (Works.conditionNow ..).course

theorem Course.refreshServed (s : State) : Course s s.refreshServed := by
  have checks : Course s (((s.recordServed s.resolved).checkSpeedUnknown).checkCharge) :=
    ((Course.recordServed s _).trans (.checkSpeedUnknown _)).trans (.checkCharge _)
  unfold State.refreshServed State.resolveQuantities; split
  · exact .refl s
  · split
    · exact .refl s
    · exact .refl s
    · exact .recordServed s _
    · exact .recordServed s _
    · exact checks
    · exact checks

/-- The end of a handling up to the checks after an abandoned park. -/
theorem Course.settle (s : State) : Course s s.refreshServed.startProbation :=
  (Course.refreshServed s).trans (.startProbation _)

end Sys2Proof.Machine
end

section
/-! What only fills up within a handling: the general slots and the record of OVERFLOW; and what a raise and an entry
leave of each record. -/

namespace Sys2Proof.Machine

/-- Where every general slot was occupied they still are, and OVERFLOW, once there, stays. -/
def Fills (s t : State) : Prop :=
  (s.generalFull = true → t.generalFull = true) ∧ ((s.record 4).isSome = true → (t.record 4).isSome = true)

theorem Fills.refl (s : State) : Fills s s := ⟨id, id⟩

theorem Fills.trans {s t u : State} (h : Fills s t) (h' : Fills t u) : Fills s u := ⟨h'.1 ∘ h.1, h'.2 ∘ h.2⟩

theorem Fills.of_engine {s t : State} (h : t.engine = s.engine) : Fills s t := by
  simp only [Fills, State.generalFull, State.record, h]; exact ⟨id, id⟩

/-- The codes of the table alone count. -/
theorem Fills.of_counts {s t : State} (hg : generalCount s.engine.records ≤ generalCount t.engine.records)
    (h4 : t.bare 4 = none → s.bare 4 = none) : Fills s t := by
  refine ⟨fun h => ?_, fun h => ?_⟩
  · rw [State.generalFull, decide_eq_true_iff] at h ⊢; exact h.trans hg
  · rw [Option.isSome_iff_ne_none] at h ⊢
    exact fun hn => h (State.bare_eq_none.1 (h4 (State.bare_eq_none.2 hn)))

theorem Fills.updateRecord (s : State) (c : Nat) {g : Record → Record} (hg : Blind g) :
    Fills s (s.updateRecord c g) := by
  refine .of_counts (le_of_eq (generalCount_mapRecord c hg.1 _).symm) fun h => ?_
  rw [State.updateRecord_bare s c 4 hg] at h
  split at h
  · exact Option.map_eq_none_iff.1 h
  · exact h

theorem Fills.take (s : State) (c : Nat) (l : Level) : Fills s (s.take c l) := by
  refine .of_counts (le_of_eq ?_) fun h => by rwa [State.take_bare] at h
  rw [take_engine]
  exact (generalCount_mapRecord c (g := fun r => { r with taken := true }) (fun _ => rfl) _).symm

theorem Fills.retake (s : State) : Fills s s.retake := by
  unfold State.retake; split
  · exact .refl s
  · exact .take s _ _

theorem Fills.createRecord (s : State) {r : Record} (ha : s.record r.code = none) : Fills s (s.createRecord r) := by
  have inserted : Fills s (s.setRecords (insertRecord r s.engine.records)) := by
    refine .of_counts ?_ fun h => ?_
    · show _ ≤ generalCount (insertRecord r s.engine.records)
      rw [generalCount_insertRecord]; split <;> omega
    · rw [State.setRecords_insert_bare s ha] at h
      split at h
      · cases h
      · exact h
  unfold State.createRecord; simp only; split
  · exact inserted.trans (.take _ _ _)
  · exact inserted

/-- A record of a code without a general slot leaves the table. -/
theorem Fills.removeRecord (s : State) {c : Nat} (hc : isGeneral c = false) (h4 : c ≠ 4) : Fills s (s.removeRecord c) := by
  have detached : Fills s (s.detach c) := by
    unfold State.detach; split
    · exact .refl s
    · refine .of_counts (le_of_eq (generalCount_eraseRecord_of_local hc _).symm) fun h => ?_
      rw [State.bare, State.setEngine_record, findRecord_eraseRecord, if_neg (Ne.symm h4)] at h
      exact h
  exact detached.trans (.retake _)

theorem isSome_of_bare {s : State} {c : Nat} {r : Record} (h : s.bare c = some r) : (s.record c).isSome = true := by
  obtain ⟨b, hb⟩ := bare_some h
  rw [hb]; rfl

/-- A fold creates OVERFLOW, replaces it at a higher level or counts it (R89, R101). -/
theorem Fills.fold (s : State) (a : Raise) : Fills s (s.fold a) ∧ ((s.fold a).record 4).isSome = true := by
  unfold State.fold
  split
  next h =>
    exact ⟨.createRecord (r := firstOverflow a _) s h, isSome_of_bare
      ((State.createRecord_bare (r := firstOverflow a _) s h 4).trans (if_pos rfl))⟩
  next r h =>
    have code : (foldedInto a r).code = 4 := (findRecord_some h).2
    split
    · let r' : Record := { foldedInto a r with level := a.level, taken := false }
      have absent : (s.detach 4).record r'.code = none := by
        rw [show r'.code = 4 from code]; exact s.detach_record 4
      have count : generalCount s.engine.records = generalCount (s.detach 4).engine.records := by
        rw [State.detach, h]; exact (generalCount_eraseRecord_of_local rfl _).symm
      have present : (((s.detach 4).createRecord r').retake.record 4).isSome = true := by
        refine isSome_of_bare (r := { r' with taken := false }) ?_
        rw [State.retake_bare, State.createRecord_bare _ absent, if_pos code.symm]
      have filled : Fills (s.detach 4) ((s.detach 4).createRecord r').retake :=
        (Fills.createRecord _ absent).trans (.retake _)
      refine ⟨⟨fun hf => filled.1 ?_, fun _ => present⟩, present⟩
      rw [State.generalFull, ← count]; exact hf
    · have filled := Fills.updateRecord s 4 (foldedInto_blind a)
      exact ⟨filled, filled.2 (by rw [h]; rfl)⟩

theorem Fills.raiseAbsent (s : State) {a : Raise} (ha : s.record a.code = none) : Fills s (s.raiseAbsent a) := by
  unfold State.raiseAbsent; split
  · exact (Fills.fold s a).1
  · exact .createRecord (r := a.record _) s ha

theorem Fills.raise (s : State) (a : Raise) : Fills s (s.raise a) := by
  have first : Fills s (s.abandonAt a.level) := .of_engine (State.abandonAt_engine s _)
  refine first.trans ?_
  simp only [State.raise]
  split
  · exact .updateRecord _ _ (reraised_blind a)
  next hr => exact .raiseAbsent _ hr

theorem Fills.present (s : State) (a : Raise) : Fills s (s.present a) := by
  unfold State.present; split
  · exact .refl s
  · split
    · exact .refl s
    · exact .raise s a

theorem Fills.conditionGone (s : State) (c : Nat) : Fills s (s.conditionGone c) := .updateRecord s c conditionEnded_blind

theorem Fills.conditionNow (s : State) (held now : Bool) (a : Raise) : Fills s (s.conditionNow held now a) := by
  unfold State.conditionNow; repeat' split
  · exact .raise s a
  · exact .conditionGone s _
  · exact .refl s

theorem Fills.checkCondition (s : State) (held now : Bool) (a : Raise) : Fills s (s.checkCondition held now a) := by
  unfold State.checkCondition State.raiseOrPresent; repeat' split
  · exact .raise s a
  · exact .present s a
  · exact .conditionGone s _
  · exact .refl s

theorem Fills.compareQuorum (s : State) : Fills s s.compareQuorum := by
  have isolated : Fills s s.isolate :=
    (Fills.of_engine (t := s.setIsolation { s.isolation with own := .isolated }) rfl).trans (.raise _ _)
  have readmitted : Fills s s.readmitted :=
    (Fills.of_engine (t := s.setIsolation { s.isolation with
      own := .active, rejoinTimer := none, cease := [], readmit := [] }) rfl).trans
      (.removeRecord _ (by decide) (by decide))
  unfold State.compareQuorum; repeat' split
  · exact isolated
  · exact .refl s
  · exact readmitted
  · exact .refl s
  · exact .refl s
  · exact .refl s

theorem Fills.handOver (s0 s : State) : Fills s (s0.handOver s) := by
  refine .of_counts (le_of_eq (by rw [State.handOver_records])) fun h => by rwa [State.handOver_bare] at h

/-! ### What a raise leaves of its record -/

/-- A raise of synthetic origin that carries no input (R74). -/
def Synthetic (a : Raise) : Prop := originOf a.code = .synthetic ∧ a.input = none ∧ a.code ≠ 2 ∧ a.code ≠ 4

theorem Synthetic.record {a : Raise} (h : Synthetic a) (t : State) :
    { a.record t.engine.beaconCount with taken := false } = createdBy a t := by
  obtain ⟨-, hi, h2, h4⟩ := h
  simp [Raise.record, createdBy, lifeAtCreation, h2, h4, Raise.detect, hi]

theorem Synthetic.reraised {a : Raise} (h : Synthetic a) {r : Record} (hr : r.code = a.code) :
    reraised a r = { r with
      count := min 255 (r.count + 1), unread := true, life := .holds, param := a.param } := by
  obtain ⟨ho, -, h2, h4⟩ := h
  have life : lifeAfterReraise r.code r.life = .holds := by
    unfold lifeAfterReraise
    rw [hr, if_neg (not_or.2 ⟨h2, h4⟩)]
    cases r.life <;> rfl
  have fields : reraiseFields a r = { r with param := a.param } := by simp only [reraiseFields, hr, ho]
  simp only [Sys2Proof.Machine.reraised, life, fields, addSat]

/-- The record of a code absent at `u` after the raise there of `a`, and at `t`, where it is as the raise left it. -/
theorem RecordCreated.raise {u t : State} {a : Raise} (ha : Synthetic a) (absent : u.record a.code = none)
    (post : t.bare a.code = (u.raise a).bare a.code) (fills : Fills (u.raise a) t)
    (count : t.engine.beaconCount = u.engine.beaconCount) :
    untaken (t.record a.code) = some (createdBy a t)
      ∨ t.generalFull = true ∧ t.record a.code = none ∧ (t.record 4).isSome = true := by
  rw [u.raise_bare a ha.2.2.2, if_pos rfl, State.bare_eq_none.2 absent, raisedRecord, ← count, ha.record] at post
  by_cases hf : (isGeneral a.code && u.generalFull) = true
  · rw [if_pos hf] at post
    have folded : u.raise a = (u.abandonAt a.level).fold a := by
      have full : (u.abandonAt a.level).generalFull = u.generalFull :=
        State.generalFull_of_engine (State.abandonAt_engine u _)
      simp only [State.raise, State.abandonAt_record, absent, State.raiseAbsent, full, hf, if_true]
    have full : u.generalFull = true := (Bool.and_eq_true_iff.1 hf).2
    refine .inr ⟨fills.1 ((Fills.raise u a).1 full), State.bare_eq_none.1 post, fills.2 ?_⟩
    rw [folded]; exact (Fills.fold _ a).2
  · rw [if_neg hf] at post
    exact .inl post

/-- A condition has begun by the raise of `a` at `u` (R76, R77). -/
theorem RecordRaised.raise {s u t : State} {a : Raise} (ha : Synthetic a) (pre : u.bare a.code = s.bare a.code)
    (post : t.bare a.code = (u.raise a).bare a.code) (fills : Fills (u.raise a) t)
    (count : t.engine.beaconCount = u.engine.beaconCount) : RecordRaised 1 a s t := by
  unfold RecordRaised
  split
  next absent =>
    have absent : u.record a.code = none := State.bare_eq_none.1 (pre.trans (State.bare_eq_none.2 absent))
    exact RecordCreated.raise ha absent post fills count
  next r present =>
    obtain ⟨-, code⟩ := findRecord_some present
    have old : s.bare a.code = some { r with taken := false } := by rw [State.bare, present]; rfl
    rw [u.raise_bare a ha.2.2.2, if_pos rfl, pre, old] at post
    refine post.trans (congrArg some ?_)
    exact ha.reraised (r := { r with taken := false }) code

/-- The absent record of a condition that is presented at `u` (R49, R76). -/
theorem RecordCreated.present {u t : State} {a : Raise} (ha : Synthetic a) (absent : u.record a.code = none)
    (post : t.bare a.code = (u.present a).bare a.code) (fills : Fills (u.present a) t)
    (count : t.engine.beaconCount = u.engine.beaconCount) : RecordCreated a t := by
  rw [u.present_bare ha.2.2.2, if_pos rfl, State.bare_eq_none.2 absent, presentedRecord, ← count, ha.record] at post
  by_cases hf : (isGeneral a.code && u.generalFull) = true
  · rw [if_pos hf] at post
    exact .inr ⟨fills.1 ((Fills.present u a).1 (Bool.and_eq_true_iff.1 hf).2), State.bare_eq_none.1 post⟩
  · rw [if_neg hf] at post
    exact .inl post

/-- A record present is left as it is by a presentation (R49). -/
theorem RecordStays.present {u : State} {a : Raise} (ha : Synthetic a) (present : (u.record a.code).isSome = true) :
    (u.present a).bare a.code = u.bare a.code := by
  obtain ⟨r, hr⟩ := Option.isSome_iff_exists.1 present
  rw [u.present_bare ha.2.2.2, if_pos rfl, State.bare, hr]; rfl

/-- A condition has ended at `u` (R80). -/
theorem RecordEnds.conditionGone {s u t : State} {c : Nat} (pre : u.bare c = s.bare c)
    (post : t.bare c = (u.conditionGone c).bare c) : RecordEnds c s t := by
  have ended : (s.bare c).map conditionEnded
      = (s.record c).map (conditionEnded ∘ fun x => { x with taken := false }) := Option.map_map ..
  rw [State.conditionGone_bare, if_pos rfl, pre, ended] at post
  refine post.trans (congrArg (Option.map · (s.record c)) (funext fun r => ?_))
  obtain ⟨_, level, _, _, life, _, _, _, _, _, _, _, _⟩ := r
  cases life <;> simp [conditionEnded, lifeAfterGone, Config.dwellPeriods]

/-- A condition that held or not is found to hold or not at `u` (R76, R80). -/
theorem RecordFollows.conditionNow {s u t : State} {held now : Bool} {a : Raise} (ha : Synthetic a)
    (pre : u.bare a.code = s.bare a.code) (post : t.bare a.code = (u.conditionNow held now a).bare a.code)
    (fills : Fills (u.conditionNow held now a) t) (count : t.engine.beaconCount = u.engine.beaconCount) :
    RecordFollows held now a s t := by
  unfold RecordFollows
  cases held <;> cases now
  · exact post.trans pre
  · exact RecordRaised.raise ha pre post fills count
  · exact RecordEnds.conditionGone pre post
  · exact post.trans pre

end Sys2Proof.Machine
end

section
/-! The served values resolved again, and an entry that changes without a change of trust. -/

namespace Sys2Proof.Machine

/-! ### The selector after a resolution -/

theorem State.abandonPark_setSelector (s : State) (x : Selector) :
    (s.setSelector x).abandonPark = s.abandonPark.setSelector x := by
  by_cases h : s.station = .parking
  · have h' : (s.setSelector x).station = .parking := h
    rw [abandonPark_of_parking h', abandonPark_of_parking h]; rfl
  · have h' : (s.setSelector x).station ≠ .parking := h
    rw [abandonPark_of_not_parking h', abandonPark_of_not_parking h]

/-- The engine and the quorum do not read the selector. -/
theorem Works.setSelector {s t : State} (h : Works s t) (x : Selector) : Works (s.setSelector x) (t.setSelector x) := by
  obtain ⟨u, hu, ⟨e, g, rfl, hs⟩ | ⟨e, g, rfl, hs⟩⟩ := h
  · exact ⟨u, hu, .inl ⟨e, g, rfl, hs⟩⟩
  · refine ⟨u, hu, .inr ⟨e, g, ?_, ?_⟩⟩
    · rw [State.abandonPark_setSelector]; rfl
    · rw [State.abandonPark_setSelector]; exact hs

/-- The station works its served values out: in CONFIG, JOIN, RUN and PARKING (R61). -/
def resolving (x : StationState) : Prop := x ≠ .hold ∧ x ≠ .parked

/-- The selector after a resolution (R59, R67, R69, R70). -/
def State.resolvedSelector (s : State) : Selector :=
  { (s.recordServed s.resolved).selector with
    speedUnknown := if s.station.riding then s.resolved.speed.isNone else s.selector.speedUnknown
    chargeHolds := if s.station.riding then decide (servedValue s.resolved.charger = 1) else s.selector.chargeHolds }

theorem State.recordServed_eq (s : State) (v : ServedValues) :
    s.recordServed v = s.setSelector (s.recordServed v).selector := by
  unfold recordServed workBand; simp only; split <;> rfl

/-- Of a resolution the selector keeps everything but the served values and the band. -/
theorem State.recordServed_selector (s : State) (v : ServedValues) :
    (s.recordServed v).selector = { s.selector with served := v, band := (s.recordServed v).selector.band } := by
  unfold recordServed workBand; simp only; split <;> rfl

@[simp] theorem State.resolvedSelector_own (s : State) : s.resolvedSelector.own = s.selector.own := by
  rw [resolvedSelector, recordServed_selector]

@[simp] theorem State.resolvedSelector_served (s : State) : s.resolvedSelector.served = s.resolved := by
  rw [resolvedSelector, recordServed_selector]

/-- The resolution in RUN and PARKING, condition by condition (R67, R69). -/
theorem State.resolveQuantities_of_riding {s : State} (h : s.station.riding = true) :
    s.resolveQuantities = ((s.recordServed s.resolved).checkSpeedUnknown).checkCharge := by
  unfold resolveQuantities
  cases hs : s.station <;> simp_all [StationState.riding]

theorem State.resolveQuantities_of_still {s : State} (h : resolving s.station) (hr : s.station.riding = false) :
    s.resolveQuantities = s.recordServed s.resolved := by
  unfold resolveQuantities
  cases hs : s.station <;> simp_all [StationState.riding, resolving]

/-- The state in which SPEED-UNKNOWN is evaluated (R67). -/
def State.speedNoted (s : State) : State :=
  let u := s.recordServed s.resolved
  u.setSelector { u.selector with speedUnknown := s.resolved.speed.isNone }

theorem State.recordServed_served (s : State) (v : ServedValues) : (s.recordServed v).selector.served = v := by
  rw [recordServed_selector]

theorem State.checkSpeedUnknown_recorded (s : State) :
    (s.recordServed s.resolved).checkSpeedUnknown
      = s.speedNoted.conditionNow s.selector.speedUnknown s.resolved.speed.isNone speedUnknownRaise := by
  have held : (s.recordServed s.resolved).selector.speedUnknown = s.selector.speedUnknown := by
    rw [recordServed_selector]
  rw [checkSpeedUnknown, speedMissing, recordServed_served, held]; rfl

/-- The state in which CHARGE-INTERLOCK is evaluated (R69). -/
def State.chargeNoted (s : State) : State :=
  let u := s.speedNoted.conditionNow s.selector.speedUnknown s.resolved.speed.isNone speedUnknownRaise
  u.setSelector { u.selector with chargeHolds := decide (servedValue s.resolved.charger = 1) }

theorem State.resolveQuantities_riding_eq {s : State} (h : s.station.riding = true) :
    s.resolveQuantities = s.chargeNoted.conditionNow s.selector.chargeHolds
      (decide (servedValue s.resolved.charger = 1)) chargeInterlockRaise := by
  have works : Works s.speedNoted _ :=
    .conditionNow s.speedNoted s.selector.speedUnknown s.resolved.speed.isNone speedUnknownRaise
  have selector := works.selector
  have noted : s.speedNoted.selector.chargeHolds = s.selector.chargeHolds ∧ s.speedNoted.selector.served = s.resolved := by
    simp only [speedNoted, setSelector_selector]
    rw [recordServed_selector]
    exact ⟨rfl, rfl⟩
  rw [resolveQuantities_of_riding h, checkSpeedUnknown_recorded, checkCharge, charging, selector, noted.1, noted.2,
    chargeNoted, selector]

/-- A resolution is a change of the selector and work of the engine. -/
theorem Works.resolveQuantities {s : State} (h : resolving s.station) :
    Works (s.setSelector s.resolvedSelector) s.resolveQuantities := by
  cases hr : s.station.riding with
  | false =>
    have same : s.setSelector s.resolvedSelector = s.recordServed s.resolved := by
      rw [State.recordServed_eq, State.resolvedSelector, hr, State.recordServed_selector]; rfl
    rw [State.resolveQuantities_of_still h hr, same]
    exact .refl _
  | true =>
    have first : Works s.speedNoted _ :=
      .conditionNow s.speedNoted s.selector.speedUnknown s.resolved.speed.isNone speedUnknownRaise
    have noted : s.setSelector s.resolvedSelector = s.speedNoted.setSelector { s.speedNoted.selector with
        chargeHolds := decide (servedValue s.resolved.charger = 1) } := by
      rw [State.speedNoted, State.recordServed_eq, State.resolvedSelector, hr]; rfl
    rw [State.resolveQuantities_riding_eq hr, noted]
    refine Works.trans ?_ (.conditionNow ..)
    rw [State.chargeNoted]
    simp only
    rw [first.selector]
    exact first.setSelector _

/-- What a refresh makes of the selector (R59). -/
def State.refreshedSelector (s : State) : Selector :=
  if s.resolved = s.selector.served then s.selector else s.resolvedSelector

theorem Works.refreshServed {s : State} (h : resolving s.station) :
    Works (s.setSelector s.refreshedSelector) s.refreshServed := by
  unfold State.refreshServed State.refreshedSelector
  split
  · exact .refl s
  · exact .resolveQuantities h

@[simp] theorem State.refreshedSelector_own (s : State) : s.refreshedSelector.own = s.selector.own := by
  unfold refreshedSelector; split
  · rfl
  · exact s.resolvedSelector_own

@[simp] theorem State.refreshedSelector_served (s : State) : s.refreshedSelector.served = s.resolved := by
  unfold refreshedSelector; split
  next h => exact h.symm
  next => exact s.resolvedSelector_served

theorem State.setSelector_resolved (s : State) {x : Selector} (h : x.own = s.selector.own) :
    (s.setSelector x).resolved = s.resolved := resolved_congr rfl h rfl (fun _ => rfl) fun _ _ => rfl

section
variable {s : State} (h : resolving s.station)
include h

theorem State.refreshServed_peers : s.refreshServed.peers = s.peers := (Works.refreshServed h).peers

theorem State.refreshServed_selector : s.refreshServed.selector = s.refreshedSelector :=
  (Works.refreshServed h).selector

/-- A refresh serves what the sources give, and the sources stay (R59). -/
theorem State.refreshServed_resolved : s.refreshServed.resolved = s.resolved := by
  rw [(Works.refreshServed h).resolved, s.setSelector_resolved s.refreshedSelector_own]

theorem State.refreshServed_served : s.refreshServed.resolved = s.refreshServed.selector.served := by
  rw [refreshServed_resolved h, refreshServed_selector h, refreshedSelector_served]

theorem State.refreshServed_isolation : QuorumOnly s.isolation s.refreshServed.isolation :=
  (Works.refreshServed h).isolation

/-- After a refresh the handling is settled where the rejoin queue was. -/
theorem State.refreshServed_settled (hq : s.isolation.queue = [] ∨ s.isolation.probation.isSome = true) :
    Settled s.refreshServed := by
  obtain ⟨queue, probation, -, -⟩ := refreshServed_isolation h
  refine ⟨refreshServed_served h, ?_⟩
  rw [queue, probation]; exact hq

end

/-- The band after a refresh (R70). -/
theorem BandFollows.refreshedSelector (s : State) : BandFollows s (s.setSelector s.refreshedSelector) := by
  unfold State.refreshedSelector
  split
  · rw [BandFollows]
    show s.selector.band = if s.selector.served.speed = s.selector.served.speed then _ else _
    rw [if_pos rfl]
  · have follows := BandFollows.recordServed s s.resolved
    rw [BandFollows] at follows ⊢
    exact follows

theorem BandFollows.of_selector {s s' t t' : State} (h : BandFollows s t) (hs : s'.selector = s.selector)
    (hc : s'.config = s.config) (ht : t'.selector = t.selector) : BandFollows s' t' := by
  simpa only [BandFollows, hs, hc, ht] using h

/-! ### The records of a resolution -/

theorem speedUnknown_synthetic : Synthetic speedUnknownRaise := ⟨rfl, rfl, by decide, by decide⟩

theorem chargeInterlock_synthetic : Synthetic chargeInterlockRaise := ⟨rfl, rfl, by decide, by decide⟩

theorem State.conditionNow_bare (s : State) (held now : Bool) {a : Raise} {c : Nat} (hc : c ≠ a.code) (h4 : c ≠ 4) :
    (s.conditionNow held now a).bare c = s.bare c := by
  unfold conditionNow; repeat' split
  · rw [raise_bare s a h4, if_neg hc]
  · rw [conditionGone_bare, if_neg hc]
  · rfl

theorem State.bare_of_engine {s t : State} (h : t.engine = s.engine) (c : Nat) : t.bare c = s.bare c := by
  rw [bare, record, h]; rfl

theorem State.speedNoted_engine (s : State) : s.speedNoted.engine = s.engine := by
  rw [speedNoted, recordServed_eq]; rfl

/-- A refresh touches the records of its two conditions alone. -/
theorem State.refreshServed_bare {s : State} (h : resolving s.station) {c : Nat} (h57 : c ≠ 57) (h59 : c ≠ 59)
    (h4 : c ≠ 4) : s.refreshServed.bare c = s.bare c := by
  unfold refreshServed
  split
  · rfl
  · cases hr : s.station.riding with
    | false => rw [resolveQuantities_of_still h hr, recordServed_eq]; rfl
    | true =>
      rw [resolveQuantities_riding_eq hr, conditionNow_bare _ _ _ h59 h4]
      exact (conditionNow_bare s.speedNoted _ _ h57 h4).trans (bare_of_engine s.speedNoted_engine c)

theorem Fills.refreshServed {s : State} (h : resolving s.station) : Fills s s.refreshServed := by
  unfold State.refreshServed
  split
  · exact .refl s
  · cases hr : s.station.riding with
    | false =>
      rw [State.resolveQuantities_of_still h hr, State.recordServed_eq]
      exact .of_engine rfl
    | true =>
      rw [State.resolveQuantities_riding_eq hr]
      refine Fills.trans ?_ (.conditionNow ..)
      exact ((Fills.of_engine s.speedNoted_engine).trans (.conditionNow ..)).trans (.of_engine rfl)

/-! ### An entry that changes without a change of trust -/

/-- What the records of an entry and its trust are read from. -/
def Alike (e e' : PeerEntry) : Prop :=
  e'.state.trusted = e.state.trusted ∧ e'.state.down = e.state.down ∧ e'.downCause = e.downCause ∧ e'.flags = e.flags
    ∧ e'.ownLevel = e.ownLevel ∧ e'.period = e.period

/-- Such a change is stored and does nothing else. -/
theorem State.updatePeer_of_alike {s : State} {i : Station} {e' : PeerEntry} (h : Alike (s.peer i) e') :
    s.updatePeer i e' = s.setPeer i e' := by
  obtain ⟨trusted, down, cause, flags, level, period⟩ := h
  have adopted : (s.peer i).adopted = e'.adopted := by simp only [PeerEntry.adopted, trusted, flags, level]
  have mismatch : ∀ p, (s.peer i).mismatch p = e'.mismatch p := fun p => by
    simp only [PeerEntry.mismatch, trusted, period]
  have owed : (s.setPeer i e').leaveOwed i (s.peer i) e' = s.setPeer i e' := by
    rw [leaveOwed, trusted]; exact if_neg (by cases (s.peer i).state.trusted <;> decide)
  have downs : (s.setPeer i e').evalDown i (s.peer i) e' = s.setPeer i e' := by
    rw [evalDown, down, cause]
    cases (s.peer i).state.down <;> simp
  have posture : (s.setPeer i e').evalPosture i (s.peer i) e' = s.setPeer i e' := if_pos adopted
  have mismatched : (s.setPeer i e').evalMismatch i (s.peer i) e' = s.setPeer i e' := by
    rw [evalMismatch, mismatch]
    unfold conditionNow
    cases e'.mismatch (s.setPeer i e').config.period <;> rfl
  rw [updatePeer, owed, downs, posture, mismatched, compareAtTrust, if_pos trusted.symm]

end Sys2Proof.Machine
end

section
/-! What a change of an entry leaves of each record, and the muting of a peer. -/

namespace Sys2Proof.Machine

/-! ### Records of codes of other entries and blocks -/

theorem State.entered_engine (s : State) (i : Station) (e' : PeerEntry) : (s.entered i e').engine = s.engine := by
  unfold entered leaveOwed; split <;> rfl

theorem State.evalDown_bare (s : State) (i : Station) (e e' : PeerEntry) {c : Nat} (hc : c ≠ 32 + i.val)
    (h4 : c ≠ 4) : (s.evalDown i e e').bare c = s.bare c := by
  unfold evalDown; repeat' split
  · rfl
  · rw [raise_bare _ _ h4, if_neg]; exact hc
  · rw [conditionGone_bare, if_neg]; exact hc
  · rfl

/-- A replacement touches its own record alone, and at a fold OVERFLOW (R89, R101). -/
theorem State.replace_bare_other (s : State) {a : Raise} {c : Nat} (hc : c ≠ a.code) (h4 : c ≠ 4) :
    (s.replace a).bare c = s.bare c := by
  rw [replace, retake_bare, raiseAbsent_bare _ (detach_record ..) h4, if_neg hc, detach_bare, if_neg hc, abandonAt_bare]

theorem State.adoptLevel_bare (s : State) (i : Station) (l : Option Level) {c : Nat} (hc : c ≠ 38 + i.val)
    (h4 : c ≠ 4) : (s.adoptLevel i l).bare c = s.bare c := by
  have raised : ∀ l, (s.raise (postureRaise i l)).bare c = s.bare c := fun l => by
    rw [raise_bare _ _ h4, if_neg]; exact hc
  have gone : (s.conditionGone (postureCode i)).bare c = s.bare c := by
    rw [conditionGone_bare, if_neg]; exact hc
  unfold adoptLevel
  split
  · rfl
  · exact raised _
  · split
    · exact gone
    · rfl
  · split
    · exact s.replace_bare_other (a := postureRaise i _) hc h4
    · split
      · split
        · exact gone
        · rfl
      · split
        · exact raised _
        · rfl

theorem State.evalPosture_bare (s : State) (i : Station) (e e' : PeerEntry) {c : Nat} (hc : c ≠ 38 + i.val)
    (h4 : c ≠ 4) : (s.evalPosture i e e').bare c = s.bare c := by
  unfold evalPosture; split
  · rfl
  · exact s.adoptLevel_bare i _ hc h4

theorem State.evalMismatch_bare (s : State) (i : Station) (e e' : PeerEntry) {c : Nat} (hc : c ≠ 44 + i.val)
    (h4 : c ≠ 4) : (s.evalMismatch i e e').bare c = s.bare c := s.conditionNow_bare _ _ hc h4

theorem State.compareAtTrust_bare (s : State) (e e' : PeerEntry) {c : Nat} (h3 : c ≠ 3) :
    (s.compareAtTrust e e').bare c = s.bare c := by
  unfold compareAtTrust; split
  · rfl
  · exact s.compareQuorum_bare h3

theorem State.presentPosture_bare (s : State) (i : Station) {c : Nat} (hc : c ≠ 38 + i.val) :
    (s.presentPosture i).bare c = s.bare c := by
  unfold presentPosture; split
  · rw [present_bare (a := postureRaise i _) s (show 38 + i.val ≠ 4 by omega), if_neg]; exact hc
  · rfl

/-! ### The stages of a change -/

/-- The state in which PEER-POSTURE is evaluated (R49). -/
def State.downEvaluated (s : State) (i : Station) (e' : PeerEntry) : State :=
  (s.entered i e').evalDown i (s.peer i) e'

/-- The state in which CONFIG-MISMATCH is evaluated (R49). -/
def State.postureEvaluated (s : State) (i : Station) (e' : PeerEntry) : State :=
  (s.downEvaluated i e').evalPosture i (s.peer i) e'

/-- The state in which the quorum is compared (R141). -/
def State.mismatchEvaluated (s : State) (i : Station) (e' : PeerEntry) : State :=
  (s.postureEvaluated i e').evalMismatch i (s.peer i) e'

theorem State.updatePeer_eq (s : State) (i : Station) (e' : PeerEntry) :
    s.updatePeer i e' = (s.mismatchEvaluated i e').compareAtTrust (s.peer i) e' := rfl

section
variable (s : State) (i : Station) (e' : PeerEntry)

/-- Of the records of the entry, PEER-DOWN is as its evaluation leaves it. -/
theorem State.updatePeer_bare_down :
    (s.updatePeer i e').bare (32 + i.val) = (s.downEvaluated i e').bare (32 + i.val) := by
  rw [updatePeer_eq, compareAtTrust_bare _ _ _ (by omega), mismatchEvaluated, evalMismatch_bare _ _ _ _ (by omega) (by omega),
    postureEvaluated, evalPosture_bare _ _ _ _ (by omega) (by omega)]

theorem State.downEvaluated_bare {c : Nat} (hc : c ≠ 32 + i.val) (h4 : c ≠ 4) :
    (s.downEvaluated i e').bare c = s.bare c := by
  rw [downEvaluated, evalDown_bare _ _ _ _ hc h4, bare_of_engine (s.entered_engine i e')]

/-- PEER-POSTURE is as its evaluation leaves it. -/
theorem State.updatePeer_bare_posture :
    (s.updatePeer i e').bare (38 + i.val) = (s.postureEvaluated i e').bare (38 + i.val) := by
  rw [updatePeer_eq, compareAtTrust_bare _ _ _ (by omega), mismatchEvaluated, evalMismatch_bare _ _ _ _ (by omega) (by omega)]

theorem State.postureEvaluated_bare {c : Nat} (h32 : c ≠ 32 + i.val) (h38 : c ≠ 38 + i.val) (h4 : c ≠ 4) :
    (s.postureEvaluated i e').bare c = s.bare c := by
  rw [postureEvaluated, evalPosture_bare _ _ _ _ h38 h4, downEvaluated_bare s i e' h32 h4]

/-- CONFIG-MISMATCH is as its evaluation leaves it. -/
theorem State.updatePeer_bare_mismatch :
    (s.updatePeer i e').bare (44 + i.val) = (s.mismatchEvaluated i e').bare (44 + i.val) := by
  rw [updatePeer_eq, compareAtTrust_bare _ _ _ (by omega)]

/-- The records of other codes stay, CEASED and OVERFLOW apart. -/
theorem State.updatePeer_bare {c : Nat} (h32 : c ≠ 32 + i.val) (h38 : c ≠ 38 + i.val) (h44 : c ≠ 44 + i.val)
    (h3 : c ≠ 3) (h4 : c ≠ 4) : (s.updatePeer i e').bare c = s.bare c := by
  rw [updatePeer_eq, compareAtTrust_bare _ _ _ h3, mismatchEvaluated, evalMismatch_bare _ _ _ _ h44 h4,
    postureEvaluated_bare s i e' h32 h38 h4]

end

/-! ### Muting -/

theorem State.downRaise_synthetic (s : State) (i : Station) (c : DownCause) : Synthetic (s.downRaise i c) := by
  have code : (s.downRaise i c).code = 32 + i.val := rfl
  have hi := i.isLt
  refine ⟨?_, rfl, ?_, ?_⟩
  · unfold originOf; rw [code]
    rw [if_neg (by omega), if_neg (by omega), if_neg (by omega), if_neg (by omega), if_neg (by omega)]
  · rw [code]; omega
  · rw [code]; omega

/-- The muting of a peer that was not down raises PEER-DOWN (R50, R137). -/
theorem State.mute_bare_down {s : State} {i : Station} (r : MuteReason) (h : (s.peer i).state.down = false) :
    (s.mute i r).bare (32 + i.val)
      = ((s.entered i ((s.peer i).muted r s.config.muteHold)).raise
          ((s.entered i ((s.peer i).muted r s.config.muteHold)).downRaise i .muted)).bare (32 + i.val) := by
  rw [mute, updatePeer_bare_down, downEvaluated, evalDown, h]; rfl

@[simp] theorem State.updatePeer_peers (s : State) (i : Station) (e' : PeerEntry) :
    (s.updatePeer i e').peers = s.peers.set i e' := by
  rw [(Works.updatePeer s i e').peers, entered_peers]

@[simp] theorem State.hearPeer_peers (s : State) (i : Station) (e' : PeerEntry) :
    (s.hearPeer i e').peers = s.peers.set i e' := by
  rw [(Works.hearPeer s i e').peers, entered_peers]

/-- The rejoin queue, the probation and the suspension flag stay as an entry changes. -/
theorem State.entered_queue (s : State) (i : Station) (e' : PeerEntry) :
    (s.entered i e').isolation.queue = s.isolation.queue ∧ (s.entered i e').isolation.probation = s.isolation.probation := by
  rw [entered_isolation]; exact ⟨rfl, rfl⟩

theorem State.updatePeer_queue (s : State) (i : Station) (e' : PeerEntry) :
    (s.updatePeer i e').isolation.queue = s.isolation.queue
      ∧ (s.updatePeer i e').isolation.probation = s.isolation.probation := by
  obtain ⟨queue, probation, -, -⟩ := (Works.updatePeer s i e').isolation
  obtain ⟨queue', probation'⟩ := s.entered_queue i e'
  exact ⟨queue.trans queue', probation.trans probation'⟩

end Sys2Proof.Machine
end

section
/-! Frames of the own number, damaged frames and the frames of a MUTED peer. -/

namespace Sys2Proof.Machine

/-! ### Hearing a frame -/

theorem State.hear_of_bad {s : State} (h : s.station.onLine = true) (i : Station) (take : State → State) :
    s.hear false i take = s.finish (s.damaged i) := if_pos h

theorem State.hear_of_own {s : State} (h : s.station.onLine = true) (take : State → State) :
    s.hear true s.own take = s.finish s.goodFrame.ownClash := by
  simp [hear, h]

theorem State.hear_of_good {s : State} (h : s.station.onLine = true) {i : Station} (hi : i ≠ s.own)
    (take : State → State) : s.hear true i take = s.finish (take s.goodFrame) := by
  simp [hear, h, hi]

/-! ### The line-error counter -/

/-- A good frame on a line that is not degraded lowers the counter alone (R28). -/
theorem State.goodFrame_of_fine {s : State} (h : s.line.degraded = false) :
    s.goodFrame = s.setLine { s.line with lineErrors := s.line.lineErrors - 1 } := by
  unfold goodFrame
  simp only [h, Bool.false_and, Bool.false_eq_true, if_false]

/-! ### The own number -/

/-- The clash age of a place is no part of its role. -/
theorem role_set_clash (p : Six Place) (i j : Station) (n : Nat) :
    ((p.set i { p.get i with clash := n }).get j).role = (p.get j).role := by
  rw [Six.get_set]; split
  next h => rw [h]
  next => rfl

theorem roleCount_congr {p q : Six Place} (h : ∀ j, (q.get j).role = (p.get j).role) (r : Role) :
    roleCount q r = roleCount p r :=
  congrArg List.length (List.filter_congr fun j _ => by rw [h])

theorem roleMissing_congr {p q : Six Place} (h : ∀ j, (q.get j).role = (p.get j).role) :
    roleMissing q = roleMissing p := by
  rw [roleMissing, roleMissing, roleCount_congr h, roleCount_congr h]

/-- A clash age above 0 is a conflict (R10). -/
theorem roleConflict_of_clash {p : Six Place} {i : Station} (h : 0 < (p.get i).clash) : roleConflict p = true := by
  have clashes : (stations.any fun j => decide (0 < (p.get j).clash)) = true :=
    List.any_eq_true.2 ⟨i, by fin_cases i <;> decide, decide_eq_true h⟩
  rw [roleConflict, clashes, Bool.or_true]

/-- Start control after a frame with the own number (R9, R10). -/
def State.clashed (s : State) : State :=
  s.setStart { s.start with
    conflictHeld := true
    population := s.start.population.set s.own { s.start.population.get s.own with clash := 16 } }

/-- The own clash age in RUN, where no role is missing anew and no conflict held (R9, R10). -/
theorem State.ownClash_of_run {s : State} (hst : s.station = .run)
    (hm : roleMissing s.start.population = s.start.missingHeld)
    (h54 : s.start.missingHeld = true → (s.record 54).isSome = true) (hc : s.start.conflictHeld = false) :
    s.ownClash = s.clashed.raise roleConflictRaise := by
  let p := s.start.population.set s.own { s.start.population.get s.own with clash := 16 }
  have missing : roleMissing p = s.start.missingHeld := (roleMissing_congr fun j => role_set_clash _ _ j _).trans hm
  have conflict : roleConflict p = true := roleConflict_of_clash (i := s.own) (by
    rw [Six.get_set, if_pos rfl]; show 0 < 16; decide)
  let u := s.setPlace s.own { s.start.population.get s.own with clash := 16 }
  have marked : u.markPopulation = s.clashed := by
    show u.setStart { u.start with missingHeld := roleMissing p, conflictHeld := roleConflict p } = _
    rw [missing, conflict]; rfl
  have presented : s.clashed.checkCondition s.start.missingHeld s.start.missingHeld roleMissingRaise = s.clashed := by
    rw [checkCondition_of_same]
    split
    next h =>
      obtain ⟨r, hr⟩ := Option.isSome_iff_exists.1 (h54 h)
      have present : s.clashed.record roleMissingRaise.code = some r := hr
      rw [State.present, present]
    next => rfl
  have riding : u.station.riding = true := by show s.station.riding = true; rw [hst]; rfl
  have checked : s.ownClash = u.populationCheck := if_pos riding
  have held : u.start.missingHeld = s.start.missingHeld ∧ u.start.conflictHeld = false := ⟨rfl, hc⟩
  rw [checked, populationCheck_eq, marked, held.1, held.2]
  show (s.clashed.checkCondition s.start.missingHeld (roleMissing p) roleMissingRaise).checkCondition false
    (roleConflict p) roleConflictRaise = _
  rw [missing, conflict, presented]; rfl

/-- A frame with the own number in RUN (R9, R10, R26). -/
theorem own_number_in_run {s : State} (k : FrameKind) (hst : s.station = .run) (still : Settled s)
    (hf : s.generalFull = false) (hd : s.line.degraded = false)
    (hm : roleMissing s.start.population = s.start.missingHeld)
    (h54 : s.start.missingHeld = true → (s.record 54).isSome = true) (hc : s.start.conflictHeld = false)
    (h53 : s.record 53 = none) :
    ∃ t, exec (.ownNumberFrame k) s = .next t
      ∧ OnlyChanges [.start, .line, .isolation, .engine, .envelope, .pins] s t
      ∧ t.start = { s.start with
          conflictHeld := true
          population := s.start.population.set s.own { s.start.population.get s.own with clash := 16 } }
      ∧ t.line = { s.line with lineErrors := s.line.lineErrors - 1 }
      ∧ PartRaised { code := 53, level := 7, fm := 0, fr := 0 } s t
      ∧ HandedOver s t := by
  let g := s.setLine { s.line with lineErrors := s.line.lineErrors - 1 }
  have ne : g.clashed.station ≠ .parking := by show s.station ≠ .parking; rw [hst]; decide
  have onLine : s.station.onLine = true := by rw [hst]; rfl
  have works : Works g.clashed (g.clashed.raise roleConflictRaise) := .raise ..
  have ran : exec (.ownNumberFrame k) s = .next (s.handOver (g.clashed.raise roleConflictRaise)) := by
    refine congrArg Host.Outcome.next ?_
    have sources : g.clashed.resolved = s.resolved := State.resolved_congr rfl rfl rfl (fun _ => rfl) fun _ _ => rfl
    have still' : Settled g.clashed := ⟨sources.trans still.1, still.2⟩
    rw [if_neg (by rw [hst]; exact fun h => nomatch h.1), State.hear_of_own onLine, State.goodFrame_of_fine hd,
      State.ownClash_of_run (s := g) hst hm h54 hc]
    exact State.finish_of_settled (works.settled still') (works.station_eq ne)
  have raised : g.clashed.raise roleConflictRaise = g.clashed.createRecord (roleConflictRaise.record s.engine.beaconCount) :=
    State.raise_of_absent (s := g.clashed) (.inl ne) h53 hf
  refine ⟨_, ran, ?_, ?_, ?_, ?_, works.handedOver rfl rfl rfl rfl rfl rfl ne⟩
  · have first : OnlyChanges [.start, .line, .isolation, .engine, .envelope, .pins] s g.clashed :=
      ⟨rfl, fun b hb => by revert hb; cases b <;> simp [SameBlock] <;> rfl⟩
    exact first.trans (works.onlyChanges_handOver ne s (by decide))
  · rw [State.handOver_start, works.start_eq ne]; rfl
  · rw [State.handOver_line, raised, State.createRecord_line_of_synthetic _ rfl]; rfl
  · exact (PartRaised.of_absent (s := g.clashed) (a := roleConflictRaise) (.inl ne) h53 hf rfl (by decide)
      (by decide)).of_engine rfl (by simp) (by simp) (by simp)

/-! ### Damaged frames -/

/-- A damaged frame that names no peer (R28). -/
theorem unattributed_in_run {s : State} (hst : s.station = .run) (still : Settled s) (pins : PinsFollow s)
    (hf : s.generalFull = false) (h50 : s.record 50 = none) :
    ∃ t, exec .unattributedBadFrame s = .next t
      ∧ OnlyChanges [.line, .isolation, .engine, .envelope, .pins] s t
      ∧ t.line.lineErrors = min 255 (s.line.lineErrors + 1)
      ∧ t.line.degraded = (s.line.degraded || decide (63 ≤ s.line.lineErrors))
      ∧ (if s.line.degraded = false ∧ 63 ≤ s.line.lineErrors then
          PartRaised { code := 50, level := 3, fm := 256, fr := 256 } s t
        else t.engine = s.engine)
      ∧ HandedOver s t := by
  let n := addSat 255 s.line.lineErrors 1
  let begins := !s.line.degraded && decide (Config.degradedAt ≤ n)
  let l : LineInterface := { s.line with lineErrors := n, degraded := s.line.degraded || begins }
  have ne : s.station ≠ .parking := by rw [hst]; decide
  have onLine : s.station.onLine = true := by rw [hst]; rfl
  have reaches : decide (Config.degradedAt ≤ n) = decide (63 ≤ s.line.lineErrors) := by
    refine decide_eq_decide.2 ?_
    show 64 ≤ min 255 (s.line.lineErrors + 1) ↔ _
    omega
  have degraded : l.degraded = (s.line.degraded || decide (63 ≤ s.line.lineErrors)) := by
    show (s.line.degraded || (!s.line.degraded && decide (Config.degradedAt ≤ n))) = _
    rw [reaches]; cases s.line.degraded <;> rfl
  have given : begins = true ↔ s.line.degraded = false ∧ 63 ≤ s.line.lineErrors := by
    show (!s.line.degraded && decide (Config.degradedAt ≤ n)) = true ↔ _
    rw [reaches]; simp
  have ran : exec .unattributedBadFrame s = .next (s.finish s.badFrame) := congrArg Host.Outcome.next (if_pos onLine)
  by_cases hb : begins = true
  · have works : Works (s.setLine l) ((s.setLine l).raise degradedRaise) := .raise ..
    have raised : (s.setLine l).raise degradedRaise
        = (s.setLine l).createRecord (degradedRaise.record s.engine.beaconCount) :=
      State.raise_of_absent (s := s.setLine l) (.inl ne) h50 hf
    have line : ((s.setLine l).raise degradedRaise).line = l := by
      rw [raised, State.createRecord_line_of_synthetic _ rfl]; rfl
    have done : s.finish s.badFrame = s.handOver ((s.setLine l).raise degradedRaise) := by
      rw [show s.badFrame = (s.setLine l).raise degradedRaise from if_pos hb]
      exact State.finish_of_settled (works.settled (settled_setLine still l)) (works.station_eq ne)
    refine ⟨_, ran.trans (congrArg _ done), ?_, ?_, ?_, ?_, works.handedOver rfl rfl rfl rfl rfl rfl ne⟩
    · exact .trans ((OnlyChanges.setLine s l).mono (by decide)) (works.onlyChanges_handOver ne s (by decide))
    · rw [State.handOver_line, line]; rfl
    · rw [State.handOver_line, line]; exact degraded
    · rw [if_pos (given.1 hb)]
      exact (PartRaised.of_absent (s := s.setLine l) (a := degradedRaise) (.inl ne) h50 hf rfl (by decide)
        (by decide)).of_engine rfl (by simp) (by simp) (by simp)
  · have done : s.finish s.badFrame = s.setLine l := by
      rw [show s.badFrame = s.setLine l from if_neg hb]; exact State.finish_setLine still pins l
    have handed : HandedOver s (s.handOver (s.setLine l)) :=
      (Works.refl (s.setLine l)).handedOver rfl rfl rfl rfl rfl rfl ne
    have same : s.handOver (s.setLine l) = s.setLine l := State.handOver_of_follow rfl rfl rfl rfl pins
    rw [same] at handed
    refine ⟨_, ran.trans (congrArg _ done), (OnlyChanges.setLine s l).mono (by decide), rfl, degraded, ?_, handed⟩
    rw [if_neg (mt given.2 hb)]; rfl

/-! ### Damaged frames of a peer -/

theorem execAttributed {s : State} {key : Fin 8} {i : Station} (hk : key.val = i.val) (hi : i ≠ s.own)
    (h : s.station.onLine = true) : exec (.attributedBadFrame key) s = .next (s.finish (s.chargeBadFrame i)) := by
  have named : (⟨key.val, hk ▸ i.isLt⟩ : Station) = i := Fin.ext hk
  have ran : exec (.attributedBadFrame key) s = .next (s.hear false ⟨key.val, hk ▸ i.isLt⟩ id) :=
    congrArg Host.Outcome.next (dif_pos (hk ▸ i.isLt))
  rw [ran, named, State.hear_of_bad h, State.damaged, if_neg hi]

theorem thresholds_eq (e : PeerEntry) : e.thresholds = byThresholds e := by
  obtain ⟨state, _, _, _, _, score, _, _, _, _, _, _, _, _, _, _, _, _⟩ := e
  cases state
  case live => by_cases h : 96 ≤ score <;> simp [PeerEntry.thresholds, byThresholds, Config.suspectAt, h]
  case suspect => by_cases h : score ≤ 48 <;> simp [PeerEntry.thresholds, byThresholds, Config.liveAt, h]
  all_goals simp [PeerEntry.thresholds, byThresholds]

theorem trusted_cases {x : EntryState} (h : x.trusted = true) : x = .live ∨ x = .suspect := by
  cases x <;> simp_all [EntryState.trusted]

/-- The thresholds move a trusted entry within LIVE and SUSPECT (R47). -/
theorem byThresholds_trusted {e : PeerEntry} (h : e.state.trusted = true) : (byThresholds e).state.trusted = true := by
  rcases trusted_cases h with hs | hs <;> simp only [byThresholds, hs] <;> (repeat' split) <;> rfl

theorem down_of_trusted {x : EntryState} (h : x.trusted = true) : x.down = false := by
  rcases trusted_cases h with hs | hs <;> rw [hs] <;> rfl

theorem alike_scored {e : PeerEntry} (h : e.state.trusted = true) (n : Nat) :
    Alike e (byThresholds { e with score := n }) := by
  have trusted : (byThresholds { e with score := n }).state.trusted = true := byThresholds_trusted (e := { e with score := n }) h
  exact ⟨trusted.trans h.symm, (down_of_trusted trusted).trans (down_of_trusted h).symm, rfl, rfl, rfl, rfl⟩

/-- A charge of a trusted entry, before its score is reported (R43, R47). -/
theorem State.updateScored_charge {s : State} {i : Station} (h : (s.peer i).state.trusted = true) (n : Nat) :
    s.updateScored i ((s.peer i).charge n)
      = (s.setPeer i (byThresholds { s.peer i with score := addSat 255 (s.peer i).score n })).reportScore i := by
  rw [updateScored, thresholds_eq]
  exact congrArg (State.reportScore · i) (updatePeer_of_alike (alike_scored h _))

theorem State.chargeBadFrame_of_trusted {s : State} {i : Station} (h : (s.peer i).state.trusted = true) :
    s.chargeBadFrame i = s.updateScored i ((s.peer i).charge 24) := by
  rcases trusted_cases h with hs | hs <;> simp only [chargeBadFrame, hs]

theorem Six.set_set {α : Type} (t : Six α) (i : Station) (x y : α) : (t.set i x).set i y = t.set i y := by
  fin_cases i <;> rfl

/-- The sources of the served values stay where a trusted entry stays trusted and keeps what it has published. -/
theorem resolved_setPeer_of_alike {s : State} {i : Station} {e : PeerEntry}
    (ht : e.state.trusted = (s.peer i).state.trusted)
    (hp : e.state.trusted = true → e.published = (s.peer i).published) : (s.setPeer i e).resolved = s.resolved := by
  refine State.resolved_congr rfl rfl rfl (fun j => ?_) fun j hj => ?_
  · rw [State.setPeer_peer]; split
    next h => rw [ht, h]
    next => rfl
  · rw [State.setPeer_peer] at hj ⊢; split at hj
    next h => rw [if_pos h, hp hj, h]
    next h => rw [if_neg h]

theorem OnlyChanges.setPeer (s : State) (i : Station) (e : PeerEntry) : OnlyChanges [.peers] s (s.setPeer i e) :=
  ⟨rfl, fun b hb => by revert hb; cases b <;> simp [SameBlock]⟩

/-- A charge below a score of 192 (R43, R47). -/
theorem charged_below {s : State} {i : Station} (hst : s.station = .run) (still : Settled s)
    (ht : (s.peer i).state.trusted = true) (hs : (s.peer i).score < 168) :
    let t := s.finish (s.chargeBadFrame i)
    OnlyChanges [.line, .peers, .isolation, .engine, .envelope, .pins] s t
      ∧ t.peers = s.peers.set i (byThresholds { s.peer i with score := (s.peer i).score + 24 })
      ∧ HandedOver s t := by
  let e1 := byThresholds { s.peer i with score := addSat 255 (s.peer i).score 24 }
  have ne : s.station ≠ .parking := by rw [hst]; decide
  have score : addSat 255 (s.peer i).score 24 = (s.peer i).score + 24 := by unfold addSat; omega
  have unmuted : (s.setPeer i e1).reportScore i = s.setPeer i e1 := by
    refine if_neg fun h => ?_
    have low : ((s.setPeer i e1).peer i).score = addSat 255 (s.peer i).score 24 := by
      rw [State.setPeer_peer, if_pos rfl]; rfl
    have high := h.2.2
    rw [low, score, Config.muteAt] at high
    omega
  have alike : Alike (s.peer i) e1 := alike_scored ht _
  have sources : (s.setPeer i e1).resolved = s.resolved := resolved_setPeer_of_alike alike.1 fun _ => rfl
  have done : s.finish (s.chargeBadFrame i) = s.handOver (s.setPeer i e1) := by
    rw [State.chargeBadFrame_of_trusted ht, State.updateScored_charge ht, unmuted]
    exact State.finish_of_settled ⟨sources.trans still.1, still.2⟩ rfl
  show OnlyChanges _ s (s.finish (s.chargeBadFrame i)) ∧ (s.finish (s.chargeBadFrame i)).peers = _ ∧ HandedOver s _
  rw [done]
  refine ⟨.trans ((OnlyChanges.setPeer s i e1).mono (by decide)) ((OnlyChanges.handOver s _).mono (by decide)), ?_,
    (Course.setPeer s i e1).handedOver ne rfl rfl rfl rfl rfl rfl⟩
  rw [State.handOver_peers, ← score]; rfl

/-! ### The end of a handling -/

theorem State.entered_selector (s : State) (i : Station) (e : PeerEntry) : (s.entered i e).selector = s.selector := by
  unfold entered leaveOwed; split <;> rfl

theorem resolving_of_onLine {x : StationState} (h : x.onLine = true) : resolving x :=
  ⟨(fun hx => nomatch (hx ▸ h : StationState.onLine .hold = true)),
    (fun hx => nomatch (hx ▸ h : StationState.onLine .parked = true))⟩

/-- A handling that abandons no park and leaves no peer to wait for its probation ends with the served values and the
handover. -/
theorem State.finish_of_course {s0 s m : State} (c : Course s m) (hst : s.station = s0.station)
    (hon : s0.station.onLine = true) (hne : s0.station ≠ .parking)
    (hq : m.isolation.queue = [] ∨ m.isolation.probation.isSome = true) :
    s0.finish m = s0.handOver m.refreshServed := by
  have ne : s.station ≠ .parking := hst ▸ hne
  have station : m.station = s0.station := (c.station_eq ne).trans hst
  have refreshed : Settled m.refreshServed :=
    refreshServed_settled (resolving_of_onLine (station ▸ hon)) hq
  have still : m.refreshServed.startProbation = m.refreshServed := startProbation_of_running refreshed.2
  have same : m.refreshServed.station = s0.station :=
    ((Course.refreshServed m).station_eq (station ▸ hne)).trans station
  rw [finish, still, checkAfterPark_of_same same]

/-- The served values are those the sources give, and the band has followed (R59, R70). -/
theorem served_of_course {s0 s m : State} (c : Course s m) (hst : s.station = s0.station)
    (hon : s0.station.onLine = true) (hne : s0.station ≠ .parking) (hsel : m.selector = s0.selector)
    (hcon : s.config = s0.config) :
    let t := s0.handOver m.refreshServed
    t.peers = m.peers ∧ t.selector.own = s0.selector.own ∧ t.selector.served = t.resolved ∧ BandFollows s0 t := by
  have station : m.station = s0.station := (c.station_eq (hst ▸ hne)).trans hst
  have res : resolving m.station := resolving_of_onLine (station ▸ hon)
  have sources : (s0.handOver m.refreshServed).resolved = m.refreshServed.resolved :=
    State.resolved_congr (by rw [State.own, State.handOver_start]; rfl) (by rw [State.handOver_selector])
      (by rw [State.handOver_config]) (fun i => by rw [State.handOver_peer]) fun i _ => by rw [State.handOver_peer]
  refine ⟨?_, ?_, ?_, ?_⟩
  · rw [State.handOver_peers, State.refreshServed_peers res]
  · rw [State.handOver_selector, State.refreshServed_selector res, State.refreshedSelector_own, hsel]
  · rw [sources, State.handOver_selector, State.refreshServed_served res]
  · refine (BandFollows.refreshedSelector m).of_selector hsel.symm (c.config.trans hcon).symm ?_
    rw [State.handOver_selector, State.refreshServed_selector res]; rfl

/-- A charge that brings the score to 192 mutes the peer (R47, R136, R137). -/
theorem charged_to_mute {s : State} {i : Station} (hst : s.station = .run) (still : Settled s)
    (hf : s.generalFull = false) (ht : (s.peer i).state.trusted = true) (hs : 168 ≤ (s.peer i).score) :
    let t := s.finish (s.chargeBadFrame i)
    OnlyChanges [.line, .peers, .selector, .isolation, .engine, .envelope, .pins] s t
      ∧ t.peers = s.peers.set i (mutedFrom (s.peer i) .score s.config.muteHold)
      ∧ t.selector.own = s.selector.own ∧ t.selector.served = t.resolved ∧ BandFollows s t
      ∧ (s.record (32 + i.val) = none →
          ∃ x ∈ t.record (32 + i.val), x.level = downLevel (s.start.population.get i).role
            ∧ x.life = .holds ∧ x.param = some { station := i, cause := some .muted })
      ∧ HandedOver s t := by
  let e1 := byThresholds { s.peer i with score := addSat 255 (s.peer i).score 24 }
  let s1 := s.setPeer i e1
  let m := s1.mute i .score
  have ne : s.station ≠ .parking := by rw [hst]; decide
  have onLine : s.station.onLine = true := by rw [hst]; rfl
  have entry : s1.peer i = e1 := by rw [State.setPeer_peer, if_pos rfl]
  have alike : Alike (s.peer i) e1 := alike_scored ht _
  have trusted : e1.state.trusted = true := alike.1.trans ht
  have muted : s1.reportScore i = m := by
    refine if_pos ⟨hst, ?_, ?_⟩
    · rw [entry]; exact trusted
    · rw [entry]; show 192 ≤ min 255 ((s.peer i).score + 24); omega
  have course : Course s m := (Course.setPeer s i e1).trans (.mute s1 i _)
  obtain ⟨queue, probation⟩ := s1.updatePeer_queue i ((s1.peer i).muted .score s1.config.muteHold)
  have waits : m.isolation.queue = [] ∨ m.isolation.probation.isSome = true := by
    show (s1.updatePeer i _).isolation.queue = [] ∨ (s1.updatePeer i _).isolation.probation.isSome = true
    rw [queue, probation]; exact still.2
  have selector : m.selector = s.selector := by
    rw [show m.selector = (s1.entered i _).selector from (Works.updatePeer s1 i _).selector]
    rw [State.entered_selector]; rfl
  have peers : m.peers = s.peers.set i (mutedFrom (s.peer i) .score s.config.muteHold) := by
    rw [show m.peers = _ from s1.updatePeer_peers i _, entry]
    exact Six.set_set ..
  have done : s.finish (s.chargeBadFrame i) = s.handOver m.refreshServed := by
    rw [State.chargeBadFrame_of_trusted ht, State.updateScored_charge ht, muted]
    exact State.finish_of_course course rfl onLine ne waits
  have whole : Course s m.refreshServed := course.trans (.refreshServed m)
  obtain ⟨peers', own, served, band⟩ := served_of_course course rfl onLine ne selector rfl
  show OnlyChanges _ s (s.finish (s.chargeBadFrame i)) ∧ _
  rw [done]
  refine ⟨?_, peers'.trans peers, own, served, band, fun absent => ?_, whole.handedOver ne rfl rfl rfl rfl rfl rfl⟩
  · exact .trans ((whole.onlyChanges ne).mono (by decide)) ((OnlyChanges.handOver s _).mono (by decide))
  · let u := s1.entered i ((s1.peer i).muted .score s1.config.muteHold)
    let a := u.downRaise i .muted
    have absent' : u.bare (32 + i.val) = none := by
      rw [State.bare_of_engine (s1.entered_engine i _), State.bare_eq_none]; exact absent
    have free : u.generalFull = false := by rw [State.generalFull_of_engine (s1.entered_engine i _)]; exact hf
    have down : (s1.peer i).state.down = false := by rw [entry]; exact down_of_trusted trusted
    have created : m.bare (32 + i.val) = some { a.record u.engine.beaconCount with taken := false } := by
      rw [State.mute_bare_down _ down, State.raise_bare u a (by omega), if_pos (show 32 + i.val = a.code from rfl), absent', raisedRecord, free,
        Bool.and_false]
      rfl
    have kept : (s.handOver m.refreshServed).bare (32 + i.val) = m.bare (32 + i.val) := by
      have res : resolving m.station := resolving_of_onLine (course.station_eq ne ▸ onLine)
      rw [State.handOver_bare, State.refreshServed_bare res (by omega) (by omega) (by omega)]
    obtain ⟨b, found⟩ := bare_some (kept.trans created)
    have level : a.level = downLevel (s.start.population.get i).role := by
      show downLevel (u.start.population.get i).role = _
      rw [(Course.entered s1 i _).start_eq ne]; rfl
    have life : lifeAtCreation a.code = .holds :=
      if_neg (show ¬(32 + i.val = 2 ∨ 32 + i.val = 4) by omega)
    exact ⟨_, found, level, life, rfl⟩

/-! ### A damaged frame of the peer in probation -/

theorem OnlyChanges.without {b : Block} {l : List Block} {s t : State} (h : OnlyChanges (b :: l) s t)
    (hb : SameBlock s t b) : OnlyChanges l s t := by
  refine ⟨h.1, fun c hc => ?_⟩
  by_cases hcb : c = b
  · exact hcb ▸ hb
  · exact h.2 c fun hm => (List.mem_cons.1 hm).elim hcb hc

/-- A damaged frame of the one peer that waits for its probation or is on it fails the probation (R43, R149). -/
theorem probation_failed {s : State} {i : Station} (hst : s.station = .run) (still : Settled s)
    (hq : s.isolation.queue = [i]) (hp : (s.peer i).state = .probation) :
    let t := s.finish (s.chargeBadFrame i)
    OnlyChanges [.line, .peers, .isolation, .engine, .envelope, .pins] s t
      ∧ t.isolation.probation = none ∧ t.isolation.queue = []
      ∧ t.peers = s.peers.set i (mutedFrom (s.peer i) ((s.peer i).muteReason.getD .score) s.config.muteHold)
      ∧ HandedOver s t := by
  let s1 := s.setPeer i ((s.peer i).charge 24)
  let m := s1.failProbation i
  have ne : s.station ≠ .parking := by rw [hst]; decide
  have entry : s1.peer i = (s.peer i).charge 24 := by rw [State.setPeer_peer, if_pos rfl]
  have charged : s.chargeBadFrame i = m := by
    have alike : s.updatePeer i ((s.peer i).charge 24) = s1 :=
      State.updatePeer_of_alike ⟨rfl, rfl, rfl, rfl, rfl, rfl⟩
    simp only [State.chargeBadFrame, hp, alike]
    rfl
  have course : Course s m := (Course.setPeer s i _).trans (.failProbation s1 i)
  have peers : m.peers = s.peers.set i (mutedFrom (s.peer i) ((s.peer i).muteReason.getD .score) s.config.muteHold) := by
    show (s1.updatePeer i ((s1.peer i).muted ((s1.peer i).muteReason.getD .score) s1.config.muteHold)).peers = _
    rw [State.updatePeer_peers, entry]
    exact Six.set_set ..
  have selector : m.selector = s.selector := by
    show (s1.updatePeer i _).selector = _
    rw [(Works.updatePeer s1 i _).selector, State.entered_selector]; rfl
  have queue : m.isolation.queue = [] := by
    show (s1.updatePeer i _).isolation.queue.filter _ = []
    rw [(s1.updatePeer_queue i _).1]
    show s.isolation.queue.filter _ = []
    rw [hq]; simp
  have entry' : ∀ j, m.peer j = if j = i then
      mutedFrom (s.peer i) ((s.peer i).muteReason.getD .score) s.config.muteHold else s.peer j := fun j => by
    rw [State.peer, peers, Six.get_set]; rfl
  have sources : m.resolved = s.resolved := by
    refine State.resolved_congr course.own_station (by rw [selector]) (by rw [course.config]) (fun j => ?_) fun j hj => ?_
    · rw [entry']; split
      next h => rw [h, hp]; rfl
      next => rfl
    · rw [entry'] at hj ⊢; split at hj
      next => cases hj
      next h => rw [if_neg h]
  have done : s.finish (s.chargeBadFrame i) = s.handOver m := by
    rw [charged]
    exact State.finish_of_settled ⟨by rw [sources, selector]; exact still.1, .inl queue⟩ (course.station_eq ne)
  show OnlyChanges _ s (s.finish (s.chargeBadFrame i)) ∧ _
  rw [done]
  refine ⟨?_, ?_, ?_, ?_, course.handedOver ne rfl rfl rfl rfl rfl rfl⟩
  · have kept : OnlyChanges [.line, .peers, .isolation, .engine] s m :=
      ((course.onlyChanges ne).mono (m := [.selector, .line, .peers, .isolation, .engine]) (by decide)).without selector
    exact .trans (kept.mono (by decide)) ((OnlyChanges.handOver s _).mono (by decide))
  · rw [State.handOver_probation]; rfl
  · rw [State.handOver_queue, queue]
  · rw [State.handOver_peers, peers]

/-! ### Good frames of a MUTED peer -/

theorem directiveOutcome_cease (i : Station) (r : MuteReason) (l : List (Queued Directive)) :
    directiveOutcome (.cease i r) l =
      if ceaseWaits i l = true then .already else if l.length < 4 then .queued else .refused := by
  have same : (l.any fun q => (Directive.cease i r).same q.frame) = ceaseWaits i l := by
    refine congrArg l.any (funext fun q => ?_)
    cases hq : q.frame with
    | cease j x => simp [Directive.same, eq_comm]
    | readmit j => rfl
  rw [directiveOutcome, same]; rfl

/-- An entry replaced twice. -/
theorem State.setPeer_setPeer (s : State) (i : Station) (e e' : PeerEntry) :
    (s.setPeer i e).setPeer i e' = s.setPeer i e' := congrArg s.setPeers (Six.set_set s.peers i e e')

/-- The frame of a MUTED peer is counted and the CEASE that is owed given (R41, R139). -/
theorem State.countMuted_of_muted {s : State} {i : Station} (h : (s.peer i).state = .muted) :
    s.countMuted i = (s.setLine { s.line with directives := ceaseGiven i (s.peer i) s.line.directives }).setPeer i
      (mutedCounted i (s.peer i) s.line.directives) := by
  let e : PeerEntry := { s.peer i with frames := addSat 255 (s.peer i).frames 1 }
  let d := Directive.cease i ((s.peer i).muteReason.getD .score)
  let l := s.line.directives
  have entry : (s.setPeer i e).peer i = e := by rw [setPeer_peer, if_pos rfl]
  have counted : s.countMuted i = (s.setPeer i e).giveCease i := if_pos h
  have outcome : directiveOutcome d l = _ := directiveOutcome_cease i ((s.peer i).muteReason.getD .score) l
  rw [counted, giveCease]
  simp only [entry]
  cases owed : (s.peer i).ceasePending with
  | false =>
    have none : ceaseGiven i (s.peer i) l = l := if_neg (by rw [owed]; exact fun h => nomatch h.1)
    have same : mutedCounted i (s.peer i) l = e := by
      rw [mutedCounted, owed, Bool.false_and, Bool.false_and, ← owed]; rfl
    refine (if_neg (fun hp => nomatch hp.2)).trans ?_
    show s.setPeer i e = (s.setLine { s.line with directives := ceaseGiven i (s.peer i) l }).setPeer i
      (mutedCounted i (s.peer i) l)
    rw [none, same]; rfl
  | true =>
    have after : mutedCounted i (s.peer i) l = { e with ceasePending := !ceaseWaits i l && decide (4 ≤ l.length) } := by
      rw [mutedCounted, owed, Bool.true_and]; rfl
    refine (if_pos ⟨h, rfl⟩).trans ?_
    show (match directiveOutcome d l with
        | .refused => s.setPeer i e
        | .queued => ((s.setPeer i e).giveDirective d).setPeer i { e with ceasePending := false }
        | .already => (s.setPeer i e).setPeer i { e with ceasePending := false })
      = (s.setLine { s.line with directives := ceaseGiven i (s.peer i) l }).setPeer i (mutedCounted i (s.peer i) l)
    rw [after]
    cases waits : ceaseWaits i l with
    | true =>
      have none : ceaseGiven i (s.peer i) l = l := if_neg (by rw [waits]; exact fun h => nomatch h.2.1)
      rw [waits, if_pos rfl] at outcome
      rw [outcome, none]
      exact s.setPeer_setPeer i e _
    | false =>
      rw [waits, if_neg (by decide)] at outcome
      by_cases room : l.length < 4
      · have given : ceaseGiven i (s.peer i) l = l ++ [Queued.fresh d] := if_pos ⟨owed, waits, room⟩
        have placed : placeDirective d l = l ++ [Queued.fresh d] := by
          rw [placeDirective, outcome, if_pos room]
        rw [if_pos room] at outcome
        rw [outcome, given, ← placed, decide_eq_false (not_le.2 room)]
        exact (s.setLine { s.line with directives := placeDirective d l }).setPeer_setPeer i e _
      · have none : ceaseGiven i (s.peer i) l = l := if_neg fun h => room h.2.2
        rw [if_neg room] at outcome
        rw [outcome, none, decide_eq_true (not_lt.1 room), show (!false && true) = e.ceasePending from owed.symm]; rfl

/-- The line after a good frame (R28). -/
def State.fineLine (s : State) : LineInterface :=
  { s.line with
    lineErrors := s.line.lineErrors - 1
    degraded := s.line.degraded && decide (32 < s.line.lineErrors - 1) }

theorem State.goodFrame_eq (s : State) :
    s.goodFrame = s.setLine s.fineLine
      ∨ s.line.degraded = true ∧ s.goodFrame = (s.setLine s.fineLine).conditionGone 50 := by
  let ends := s.line.degraded && decide (s.line.lineErrors - 1 ≤ Config.degradedGoneAt)
  have degraded : (s.line.degraded && !ends) = (s.line.degraded && decide (32 < s.line.lineErrors - 1)) := by
    have : decide (32 < s.line.lineErrors - 1) = !decide (s.line.lineErrors - 1 ≤ Config.degradedGoneAt) := by
      rw [← decide_not]; exact decide_eq_decide.2 not_le.symm
    rw [this]; show (s.line.degraded && !(s.line.degraded && _)) = _
    cases s.line.degraded <;> rfl
  have line : s.setLine { s.line with lineErrors := s.line.lineErrors - 1, degraded := s.line.degraded && !ends }
      = s.setLine s.fineLine := by rw [degraded]; rfl
  by_cases he : ends = true
  · refine .inr ⟨(Bool.and_eq_true_iff.1 he).1, ?_⟩
    rw [← line]; exact if_pos he
  · refine .inl ?_
    rw [← line]; exact if_neg he

/-- The drive condition looks at trusted peers alone (R118). -/
theorem State.driveCondition_setPeer_of_untrusted {s : State} {i : Station} {e : PeerEntry}
    (h : (s.peer i).state.trusted = false) (he : e.state.trusted = false) :
    (s.setPeer i e).driveCondition = s.driveCondition := by
  refine congrArg stations.all (funext fun j => ?_)
  simp only [setPeer_peer]
  split
  next hj => rw [hj, h, he]; rfl
  next => rfl

/-- A MUTED sender counts no directive (R135). -/
theorem State.counts_of_muted {s : State} {i : Station} (h : (s.peer i).state = .muted) : s.counts i = false := by
  rw [counts, h]; exact Bool.and_false _

theorem State.goodFrame_peers (s : State) : s.goodFrame.peers = s.peers := by
  rcases s.goodFrame_eq with h | ⟨-, h⟩ <;> rw [h] <;> rfl

/-- A MUTED peer stays MUTED as its frames are counted. -/
theorem State.countMuted_muted {s : State} {i : Station} (h : (s.peer i).state = .muted) :
    ((s.countMuted i).peer i).state = .muted := by
  rw [countMuted_of_muted h, setPeer_peer, if_pos rfl]; exact h

/-- Each good frame of a MUTED peer other than a beacon is counted, and does nothing else (R41, R42, R135). -/
theorem execGoodFrame_of_muted {s : State} {i : Station} {c : Instr} (hst : s.station = .run) (hc : GoodFrameOf i c)
    (hi : i ≠ s.own) (hm : (s.peer i).state = .muted) :
    exec c s = .next (s.finish (s.goodFrame.countMuted i)) := by
  have onLine : s.station.onLine = true := by rw [hst]; rfl
  have muted : (s.goodFrame.peer i).state = .muted := by rw [State.peer, s.goodFrame_peers]; exact hm
  have counted := State.counts_of_muted (State.countMuted_muted muted)
  cases c <;> simp only [GoodFrameOf] at hc
  case alertReceived a =>
    obtain ⟨wf, rfl⟩ := hc
    refine congrArg Host.Outcome.next ?_
    rw [wf, State.hear_of_good onLine hi]
    refine congrArg s.finish ?_
    simp only [State.takeAlert, muted]
  case ceaseReceived d =>
    obtain ⟨wf, rfl⟩ := hc
    refine congrArg Host.Outcome.next ?_
    rw [wf, State.hear_of_good onLine hi, State.takeCease, counted]; rfl
  case readmitReceived d =>
    obtain ⟨wf, rfl⟩ := hc
    refine congrArg Host.Outcome.next ?_
    rw [wf, State.hear_of_good onLine hi, State.takeReadmit, counted]; rfl
  case wakeFrameReceived j =>
    subst hc
    refine congrArg Host.Outcome.next ?_
    rw [if_neg (by rw [hst]; decide), State.hear_of_good onLine hi]

/-- The end of such a handling: nothing is handed over. -/
theorem muted_counted {s : State} {i : Station} (still : Settled s) (pins : PinsFollow s)
    (hm : (s.peer i).state = .muted) :
    let t := s.finish (s.goodFrame.countMuted i)
    OnlyChanges [.line, .peers, .engine] s t
      ∧ t.line = { s.fineLine with directives := ceaseGiven i (s.peer i) s.line.directives }
      ∧ t.peers = s.peers.set i (mutedCounted i (s.peer i) s.line.directives)
      ∧ (s.line.degraded = false → t.engine = s.engine) := by
  let e := mutedCounted i (s.peer i) s.line.directives
  let w := (s.setLine { s.fineLine with directives := ceaseGiven i (s.peer i) s.line.directives }).setPeer i e
  have untrusted : e.state.trusted = false := by show (s.peer i).state.trusted = false; rw [hm]; rfl
  have untrusted' : (s.peer i).state.trusted = false := by rw [hm]; rfl
  have only : OnlyChanges [.line, .peers] s w := ⟨rfl, fun b hb => by revert hb; cases b <;> simp [SameBlock, w]⟩
  have drives : w.driveCondition = s.driveCondition :=
    State.driveCondition_setPeer_of_untrusted (s := s.setLine _) untrusted' untrusted
  have sources : w.resolved = s.resolved :=
    resolved_setPeer_of_alike (s := s.setLine _) (untrusted.trans untrusted'.symm) fun h => nomatch untrusted ▸ h
  have still' : Settled w := ⟨sources.trans still.1, still.2⟩
  have follow : PinsFollow w := pins
  rcases s.goodFrame_eq with h | ⟨hd, h⟩
  · have same : s.goodFrame.countMuted i = w := by rw [h]; exact State.countMuted_of_muted (s := s.setLine _) hm
    have station : w.station = s.station := rfl
    have done : s.finish w = w :=
      (State.finish_of_settled still' station).trans (State.handOver_of_follow (s0 := s) rfl drives rfl rfl follow)
    rw [same, done]
    exact ⟨only.mono (by decide), rfl, rfl, fun _ => rfl⟩
  · have same : s.goodFrame.countMuted i = w.conditionGone 50 := by
      rw [h, State.countMuted_of_muted (s := (s.setLine s.fineLine).conditionGone 50) hm]; rfl
    have station : (w.conditionGone 50).station = s.station := rfl
    have done : s.finish (w.conditionGone 50) = w.conditionGone 50 :=
      (State.finish_of_settled ((Works.conditionGone w 50).settled still') station).trans
        (State.handOver_of_follow (s0 := s) rfl drives rfl (w.conditionGone_inputs 50) (follow.conditionGone 50))
    rw [same, done]
    refine ⟨?_, rfl, rfl, fun h => nomatch hd ▸ h⟩
    have gone : OnlyChanges [.engine] w (w.conditionGone 50) :=
      ⟨rfl, fun b hb => by revert hb; cases b <;> simp [SameBlock] <;> rfl⟩
    exact (only.mono (by decide)).trans (gone.mono (by decide))

/-- Settles O52: by the kind of frame, and for a damaged frame of a peer by its entry and its score. -/
theorem clashesAndDamagedFrames : Obligations.ClashesAndDamagedFrames := by
  intro k key i c s hst still pins hf
  have onLine : s.station.onLine = true := by rw [hst]; rfl
  exact ⟨own_number_in_run k hst still hf, unattributed_in_run hst still pins hf,
    fun hk hi ht hs => ⟨_, execAttributed hk hi onLine, charged_below hst still ht hs⟩,
    fun hk hi ht hs => ⟨_, execAttributed hk hi onLine, charged_to_mute hst still hf ht hs⟩,
    fun hk hi _ hq hp => ⟨_, execAttributed hk hi onLine, probation_failed hst still hq hp⟩,
    fun hc hi hm => ⟨_, execGoodFrame_of_muted hst hc hi hm, muted_counted still pins hm⟩⟩

end Sys2Proof.Machine
end

section
/-! The own expiry, part by part: what each part leaves alone. -/

namespace Sys2Proof.Machine

/-! ### The parts that are a course of a handling -/

theorem Course.foldl {α : Type} {f : State → α → State} (h : ∀ s a, Course s (f s a)) (l : List α) :
    ∀ s, Course s (l.foldl f s) := by
  induction l with
  | nil => exact .refl
  | cons a l ih => exact fun s => (h s a).trans (ih _)

theorem Course.agePlaces (later : List Later) (s : State) : Course s (s.agePlaces later) :=
  (Course.setIsolation s (u := { s.isolation with
    cease := ageCease later s.isolation.cease, readmit := ageReadmit later s.isolation.readmit }) rfl
    fun _ h => h).trans (Works.compareQuorum _).course

theorem Course.countHolds (s : State) : Course s s.countHolds := by
  unfold State.countHolds; split
  · exact .setPeers s _
  · exact .refl s

theorem Course.rejoinTimedOut (s : State) : Course s s.rejoinTimedOut :=
  (Course.setIsolation s (u := { s.isolation with own := .isolated, rejoinTimer := none, readmit := [] }) rfl
    fun _ h => h).trans (EngineStep.updateRecord _ 3 (g := fun r => { r with unread := true }) fun _ => rfl).works.course

theorem Course.countRejoin (later : List Later) (s : State) : Course s (s.countRejoin later) := by
  have counted : ∀ n, Course s (s.setIsolation { s.isolation with rejoinTimer := n }) := fun n =>
    .setIsolation s rfl fun _ h => h
  unfold State.countRejoin; split
  · simp only; split
    · exact (counted _).trans (.rejoinTimedOut _)
    · exact counted _
  · exact .refl s

theorem Course.retryOwed (s : State) : Course s s.retryOwed := .foldl .giveReadmit _ s

theorem Course.agePeer (s : State) (i : Station) : Course s (s.agePeer i) := by
  unfold State.agePeer; simp only; split
  · exact .updateScored s i _
  · exact .updateScored s i _
  · split
    · exact (Course.updatePeer s i _).trans (.failProbation _ i)
    · exact .updatePeer s i _
  · exact .refl s

theorem Course.countSelf (s : State) (i : Station) : Course s (s.countSelf i) := by
  unfold State.countSelf; simp only; split
  · exact .setPeer s i _
  · exact .refl s

theorem Course.selfPeriod (later : List Later) (s : State) (i : Station) : Course s (s.selfPeriod later i) := by
  unfold State.selfPeriod; simp only; split
  · exact .countSelf s i
  · exact (Course.countSelf s i).trans (.reportSelfContained _ i)

theorem Course.peerPeriod (later : List Later) (s : State) (i : Station) : Course s (s.peerPeriod later i) := by
  refine (Course.agePeer s i).trans ?_
  unfold State.peerPeriod; simp only; split
  · split
    · exact .refl _
    · exact .updatePeer _ i _
  · exact .selfPeriod later _ i

theorem Course.peersPeriod (later : List Later) (s : State) : Course s (s.peersPeriod later) := by
  unfold State.peersPeriod; split
  · exact .foldl (.peerPeriod later) _ s
  · exact .refl s

theorem Works.presentIf (s : State) (b : Bool) (a : Raise) : Works s (s.presentIf b a) := by
  unfold State.presentIf; split
  · exact .present s a
  · exact .refl s

theorem Works.presentPeer (s : State) (i : Station) : Works s (s.presentPeer i) :=
  ((Works.presentIf s (s.peer i).state.down (s.downRaise i (s.peer i).downCause)).trans (.presentPosture _ i)).trans
    (.presentIf _ _ _)

theorem Works.foldl {α : Type} {f : State → α → State} (h : ∀ s a, Works s (f s a)) (l : List α) :
    ∀ s, Works s (l.foldl f s) := by
  induction l with
  | nil => exact .refl
  | cons a l ih => exact fun s => (h s a).trans (ih _)

theorem Works.presentPeers (s : State) : Works s s.presentPeers := .foldl .presentPeer _ s

theorem Works.presentPopulation (s : State) : Works s s.presentPopulation :=
  (Works.presentIf s s.start.missingHeld roleMissingRaise).trans (.presentIf _ _ roleConflictRaise)

theorem Works.presentRoles (s : State) : Works s s.presentRoles := by
  unfold State.presentRoles; split
  · exact .presentPopulation s
  · exact .refl s

theorem Works.presentSelector (s : State) : Works s s.presentSelector :=
  (((Works.presentIf s _ _).trans (.presentIf _ _ _)).trans (.presentIf _ _ _)).trans (.presentIf _ _ _)

theorem Works.presentLine (s : State) : Works s s.presentLine :=
  ((Works.presentIf s _ _).trans (.presentIf _ _ _)).trans (.presentIf _ _ _)

theorem Course.workBand (s : State) : Course s s.workBand := .setSelector s rfl

theorem Course.setDisputed (s : State) (a b : Bool) : Course s (s.setDisputed a b) := by
  have marked : Course s (s.setSelector { s.selector with speedDisputed := a, voltageDisputed := b }) :=
    .setSelector s rfl
  unfold State.setDisputed; simp only; split
  · exact marked.trans (Works.conditionNow _ _ _ _).course
  · exact (marked.trans (.workBand _)).trans (Works.conditionNow _ _ _ _).course

theorem Course.chargeOutlier (s : State) (x : Option Station) : Course s (s.chargeOutlier x) := by
  unfold State.chargeOutlier; split
  · split
    · exact .refl s
    · exact .crossCharge s _
  · exact .refl s

theorem Course.evaluateChecks (later : List Later) (s : State) : Course s (s.evaluateChecks later) := by
  have counted : ∀ m n, Course s (s.setSelector { s.selector with speedCount := m, voltageCount := n }) := fun m n =>
    .setSelector s rfl
  exact ((((counted _ _).trans (.setDisputed _ _ _)).trans (.chargeOutlier _ _)).trans (.chargeOutlier _ _)).trans
    (.refreshServed _)

theorem Course.setBrake (s : State) (n : Nat) (b : Bool) : Course s (s.setBrake n b) := .setSelector s rfl

theorem Course.countBrake (later : List Later) (s : State) : Course s (s.countBrake later) := by
  unfold State.countBrake
  split
  · split
    · exact (Course.setBrake s _ _).trans (Works.conditionGone _ _).course
    · exact .refl s
  · split
    · simp only; split
      · exact ((Course.setBrake s _ _).trans (.setBrake _ _ _)).trans (Works.raise _ _).course
      · exact .setBrake s _ _
    · exact .setBrake s _ _

/-- The selector's period after the freshness counts. -/
theorem Course.selectorPeriod (later : List Later) (s : State) :
    Course (s.mapOwn countFresh) (s.selectorPeriod later) := by
  unfold State.selectorPeriod; simp only; split
  · exact (((Course.refreshServed _).trans (.evaluateChecks later _)).trans (.countBrake later _)).trans
      (Works.presentSelector _).course
  · exact .refreshServed _

/-! ### The engine's own counts -/

/-- The engine after the own beacon count and the dwells, before any record leaves (R73, R81). -/
def Engine.counted (e : Engine) : Engine :=
  { e with beaconCount := e.beaconCount + 1, records := e.records.map countDwell }

theorem EngineStep.foldl {α : Type} {f : State → α → State} (h : ∀ s a, EngineStep s (f s a)) (l : List α) :
    ∀ s, EngineStep s (l.foldl f s) := by
  induction l with
  | nil => exact .refl
  | cons a l ih => exact fun s => (h s a).trans (ih _)

theorem EngineStep.countRecords (later : List Later) (s : State) :
    EngineStep (s.setEngine s.engine.counted) (s.countRecords later) := .foldl .removeRecord _ _

/-- The release count and the contactor sequence are all that the contactor's period changes (R120). -/
theorem State.countRelease_eq (later : List Later) (s : State) :
    ∃ c n, s.countRelease later = s.setContactor c n := by
  unfold countRelease; split
  · simp only; split
    · exact ⟨_, _, rfl⟩
    · exact ⟨_, _, rfl⟩
  · exact ⟨s.engine.contactor, s.engine.releaseCount, rfl⟩

/-- The counts of the containment engine and the contactor at an own expiry (R73, R81, R120). -/
def State.expiryCounted (later : List Later) (s : State) : State :=
  ((s.setStart { s.start with beaconTimer := some (periodMs s.config.period) }).countRecords later).countRelease later

theorem countDwell_code (r : Record) : (countDwell r).code = r.code := by unfold countDwell; split <;> rfl

theorem TableLaw.countDwell {l : List Record} (h : TableLaw l) : TableLaw (l.map countDwell) :=
  h.of_codes (by rw [List.map_map]; exact List.map_congr_left fun r _ => countDwell_code r)

/-- They change the engine and give alerts. -/
theorem State.expiryCounted_eq (later : List Later) (s : State) :
    ∃ e g, s.expiryCounted later
        = (s.setStart { s.start with beaconTimer := some (periodMs s.config.period) }).worked e g
      ∧ e.beaconCount = s.engine.beaconCount + 1 ∧ (TableLaw s.engine.records → TableLaw e.records) := by
  obtain ⟨e, g, he, hb, -, -, ht⟩ :=
    EngineStep.countRecords later (s.setStart { s.start with beaconTimer := some (periodMs s.config.period) })
  obtain ⟨c, n, hc⟩ := (((s.setStart { s.start with beaconTimer := some (periodMs s.config.period) }).countRecords
    later)).countRelease_eq later
  refine ⟨{ e with contactor := c, releaseCount := n }, g, ?_, hb, fun h => ht h.countDwell⟩
  rw [expiryCounted, hc, he]; rfl

end Sys2Proof.Machine
end

section
/-! The own expiry as one handling, the entry to RUN, and start control at both: the clash ages. -/

namespace Sys2Proof.Machine

/-! ### The entry to RUN -/

theorem Course.raiseAtEntry (s : State) : Course s s.raiseAtEntry := by
  let u := (s.setSelector { s.selector with speedUnknown := false }).checkSpeedUnknown
  have first : Course s u :=
    (Course.setSelector s (x := { s.selector with speedUnknown := false }) rfl).trans (.checkSpeedUnknown _)
  have second : Course u (u.setSelector { u.selector with chargeHolds := false }) := .setSelector u rfl
  exact (first.trans second).trans (.checkCharge _)

/-- Start control as the entry to RUN leaves it (R8, R10). -/
def State.enteredRun (s : State) : State :=
  (s.setStart { s.start with station := .run, everRun := true }).markPopulation

/-- What the entry to RUN does before supervision starts (R8, R10, R61, R141). -/
def State.checkedRun (s : State) : State :=
  (s.setStart { s.start with station := .run, everRun := true }).populationCheck.raiseAtEntry.compareQuorum

theorem State.enterRun_eq (s : State) : s.enterRun = s.checkedRun.startAtEntry := rfl

theorem Course.checkedRun (s : State) : Course s.enteredRun s.checkedRun :=
  ((Works.populationCheck _).course.trans (.raiseAtEntry _)).trans (Works.compareQuorum _).course

/-- Supervision after an entry to RUN (R158). -/
def State.supervisionAtEntry (s : State) : Supervision :=
  if s.config.startMode = .auto ∧ s.supervision.running = false then
    { s.supervision with running := true, count := s.config.reload }
  else s.supervision

theorem State.startAtEntry_eq (s : State) : s.startAtEntry = s.setSupervision s.supervisionAtEntry := by
  unfold startAtEntry supervisionAtEntry
  cases hm : s.config.startMode with
  | onFirstRefresh => simp; rfl
  | auto =>
    cases hr : s.supervision.running with
    | true => simp; rfl
    | false => simp; rfl

/-! ### The parts of the own expiry -/

/-- The own expiry with the clash ages lowered, before the population check that they may call for (R9). -/
def State.expiryClashed (later : List Later) (s : State) : State :=
  let t := s.expiryCounted later
  t.setStart { t.start with population := t.start.population.map Place.countClash }

/-- Up to the presentation of start control's conditions (R10). -/
def State.expiryRoles (later : List Later) (s : State) : State :=
  ((s.expiryCounted later).countClashes later).presentRoles

/-- Up to the end of the peer view's period (R44 to R49). -/
def State.expiryPeers (later : List Later) (s : State) : State :=
  ((((((s.expiryRoles later).agePlaces later).countHolds.countRejoin later).retryOwed).peersPeriod
    later).presentPeers).refreshServed

/-- Up to the beacon (R16, R31). -/
def State.expirySent (later : List Later) (s : State) : State :=
  ((s.expiryPeers later).selectorPeriod later).presentLine.periodicBeacon

/-- Up to the end of the handling (R8). -/
def State.expiryEnded (later : List Later) (s : State) : State := (s.expirySent later).countDiscovery later

theorem State.ownExpiry_eq {s : State} (later : List Later) (h : s.station.onLine = true) :
    s.ownExpiry later = s.finish (s.expiryEnded later) := if_pos h

theorem State.recheckPopulation_works (s : State) :
    ∃ v, (v = s ∨ v = s.markPopulation) ∧ (s.station.riding = true → v = s.markPopulation)
      ∧ (s.station.riding = false → s.recheckPopulation = v) ∧ Works v s.recheckPopulation := by
  unfold recheckPopulation; split
  next h => exact ⟨_, .inr rfl, fun _ => rfl, fun h' => absurd h (by rw [h']; decide), .populationCheck s⟩
  next h => exact ⟨_, .inl rfl, fun h' => absurd h' h, fun _ => rfl, .refl s⟩

/-- The clash ages, and the check where one of them comes to 0 in RUN or PARKING (R9, R10). -/
theorem State.expiryRoles_works (later : List Later) (s : State) :
    ∃ v, (v = s.expiryClashed later ∨ v = (s.expiryClashed later).markPopulation)
      ∧ ((s.expiryCounted later).station.riding = true → (s.expiryCounted later).clashEnds later = true →
          v = (s.expiryClashed later).markPopulation)
      ∧ ((s.expiryCounted later).station.riding = false → v = s.expiryClashed later ∧ s.expiryRoles later = v)
      ∧ Works v (s.expiryRoles later) := by
  obtain ⟨v, cases', riding, still, works⟩ := (s.expiryClashed later).recheckPopulation_works
  have whole : Works ((s.expiryCounted later).countClashes later) (s.expiryRoles later) := .presentRoles _
  have quiet : (s.expiryCounted later).station.riding = false →
      s.expiryRoles later = (s.expiryCounted later).countClashes later := fun h => by
    refine if_neg ?_
    have same : ((s.expiryCounted later).countClashes later).station.riding = false := by
      unfold countClashes; simp only; split
      · have : (s.expiryClashed later).recheckPopulation = s.expiryClashed later := if_neg (by
          show ¬(s.expiryCounted later).station.riding = true
          rw [h]; decide)
        show (s.expiryClashed later).recheckPopulation.station.riding = false
        rw [this]; exact h
      · exact h
    rw [same]; decide
  by_cases he : (s.expiryCounted later).clashEnds later = true
  · have checked : (s.expiryCounted later).countClashes later = (s.expiryClashed later).recheckPopulation := if_pos he
    rw [checked] at whole quiet
    refine ⟨v, cases', fun h _ => riding h, fun h => ⟨?_, (quiet h).trans (still h)⟩, works.trans whole⟩
    rcases cases' with hv | hv
    · exact hv
    · have : (s.expiryClashed later).recheckPopulation = s.expiryClashed later := if_neg (by
        show ¬(s.expiryCounted later).station.riding = true
        rw [h]; decide)
      rw [← still h, this]
  · have unchecked : (s.expiryCounted later).countClashes later = s.expiryClashed later := if_neg he
    rw [unchecked] at whole quiet
    exact ⟨_, .inl rfl, fun _ h => absurd h he, fun h => ⟨rfl, quiet h⟩, whole⟩

theorem Course.expiryPeers (later : List Later) (s : State) : Course (s.expiryRoles later) (s.expiryPeers later) :=
  ((((((Course.agePlaces later _).trans (.countHolds _)).trans (.countRejoin later _)).trans (.retryOwed _)).trans
    (.peersPeriod later _)).trans (Works.presentPeers _).course).trans (.refreshServed _)

/-- The part of the own expiry between the freshness counts and the beacon. -/
theorem Course.expirySelected (later : List Later) (s : State) :
    Course ((s.expiryPeers later).mapOwn countFresh) ((s.expiryPeers later).selectorPeriod later).presentLine :=
  (Course.selectorPeriod later _).trans (Works.presentLine _).course

/-! ### Start control -/

/-- Both marks are those of the population record as it stands (R10). -/
def Marked (a : StartControl) : Prop :=
  a.missingHeld = roleMissing a.population ∧ a.conflictHeld = roleConflict a.population

/-- Start control goes on: the population record and the beacon timer stay, and marks that are right stay right. -/
def StartKept (a b : StartControl) : Prop :=
  b.population = a.population ∧ b.beaconTimer = a.beaconTimer ∧ (Marked a → Marked b)

theorem StartKept.refl (a : StartControl) : StartKept a a := ⟨rfl, rfl, id⟩

theorem StartKept.trans {a b c : StartControl} (h : StartKept a b) (h' : StartKept b c) : StartKept a c :=
  ⟨h'.1.trans h.1, h'.2.1.trans h.2.1, h'.2.2 ∘ h.2.2⟩

theorem Course.startKept {s t : State} (h : Course s t) : StartKept s.start t.start := by
  rw [h.start_but_station]; exact ⟨rfl, rfl, id⟩

theorem marked_markPopulation (s : State) : Marked s.markPopulation.start := ⟨rfl, rfl⟩

theorem StartKept.markPopulation (s : State) : StartKept s.start s.markPopulation.start :=
  ⟨rfl, rfl, fun _ => marked_markPopulation s⟩

theorem StartKept.populationCheck (s : State) : StartKept s.start s.populationCheck.start :=
  (StartKept.markPopulation s).trans (Works.populationCheck s).course.startKept

theorem StartKept.enterRun (s : State) : StartKept s.start s.enterRun.start := by
  rw [State.enterRun_eq, State.startAtEntry_eq]
  refine StartKept.trans ?_ (Course.checkedRun s).startKept
  exact ⟨rfl, rfl, fun _ => marked_markPopulation _⟩

theorem StartKept.countDiscovery (later : List Later) (s : State) : StartKept s.start (s.countDiscovery later).start := by
  unfold State.countDiscovery; split
  · simp only; split
    · exact StartKept.trans ⟨rfl, rfl, id⟩ (.enterRun _)
    · exact ⟨rfl, rfl, id⟩
  · exact .refl _

theorem StartKept.checkAfterPark (s0 s : State) : StartKept s.start (s0.checkAfterPark s).start := by
  unfold State.checkAfterPark; split
  · exact (StartKept.populationCheck s).trans (Works.compareQuorum s.populationCheck).course.startKept
  · exact .refl _

theorem StartKept.finish (s0 s : State) : StartKept s.start (s0.finish s).start := by
  have settled := (Course.settle s).startKept
  rw [State.finish, State.handOver_start]
  generalize s.refreshServed.startProbation = u at settled ⊢
  exact settled.trans (.checkAfterPark s0 u)

theorem State.mapOwn_start (s : State) (f : OwnValue → OwnValue) : (s.mapOwn f).start = s.start := rfl

theorem State.periodicBeacon_start (s : State) : s.periodicBeacon.start = s.start := rfl

/-- Start control from the clash ages to the beacon. -/
theorem StartKept.expirySent (later : List Later) (s : State) :
    StartKept (s.expiryRoles later).start (s.expirySent later).start := by
  have first := (Course.expiryPeers later s).startKept
  have second := (Course.expirySelected later s).startKept
  rw [State.mapOwn_start] at second
  rw [State.expirySent, State.periodicBeacon_start]
  exact first.trans second

/-- Start control from the clash ages to the end of the own expiry. -/
theorem StartKept.ownExpiry {s : State} (later : List Later) (h : s.station.onLine = true) :
    StartKept (s.expiryRoles later).start (s.ownExpiry later).start := by
  rw [State.ownExpiry_eq later h]
  exact ((StartKept.expirySent later s).trans (.countDiscovery later _)).trans (.finish s _)

theorem State.expiryCounted_start (later : List Later) (s : State) :
    (s.expiryCounted later).start = { s.start with beaconTimer := some (periodMs s.config.period) } := by
  obtain ⟨e, g, h, -⟩ := s.expiryCounted_eq later
  rw [h]; rfl

theorem State.expiryCounted_station (later : List Later) (s : State) : (s.expiryCounted later).station = s.station := by
  rw [station, expiryCounted_start]; rfl

/-- The population record and the beacon timer after an own expiry (R8, R9). -/
theorem expiry_population {s : State} (later : List Later) (h : s.station.onLine = true) :
    (s.ownExpiry later).start.population = s.start.population.map Place.countClash
      ∧ (s.ownExpiry later).start.beaconTimer = some (periodMs s.config.period) := by
  obtain ⟨population, timer, -⟩ := StartKept.ownExpiry later h
  obtain ⟨v, hv, -, -, works⟩ := s.expiryRoles_works later
  obtain ⟨population', timer', -⟩ := works.course.startKept
  have clashed : v.start.population = s.start.population.map Place.countClash
      ∧ v.start.beaconTimer = some (periodMs s.config.period) := by
    have start := s.expiryCounted_start later
    rcases hv with rfl | rfl
    · simp only [State.expiryClashed, State.setStart_start, start, and_self]
    · simp only [State.expiryClashed, State.markPopulation, State.setStart_start, start, and_self]
  exact ⟨(population.trans population').trans clashed.1, (timer.trans timer').trans clashed.2⟩

/-- The marks after an own expiry at which a clash age ends in RUN or PARKING (R10). -/
theorem expiry_marked {s : State} (later : List Later) (h : s.station.riding = true) {i : Station}
    (hc : (s.start.population.get i).clash = 1) (hl : .clashAge i ∉ later) : Marked (s.ownExpiry later).start := by
  have onLine : s.station.onLine = true := by revert h; cases s.station <;> decide
  obtain ⟨-, -, marked⟩ := StartKept.ownExpiry later onLine
  obtain ⟨v, -, hv, -, works⟩ := s.expiryRoles_works later
  have ends : (s.expiryCounted later).clashEnds later = true := by
    refine List.any_eq_true.2 ⟨i, by fin_cases i <;> decide, ?_⟩
    rw [State.expiryCounted_start]
    simp [hc, hl]
  have riding : (s.expiryCounted later).station.riding = true := by rw [State.expiryCounted_station]; exact h
  refine marked (works.course.startKept.2.2 ?_)
  rw [hv riding ends]; exact marked_markPopulation _

/-! ### CLASH_AGE_EXPIRY -/

/-- A conflict that is over ends ROLE-CONFLICT, and nothing else changes (R10, R80). -/
theorem clash_age_expired {s : State} {i : Station} (hst : s.station = .run) (still : Settled s) (pins : PinsFollow s)
    (hc : (s.start.population.get i).clash = 0) (hm : roleMissing s.start.population = s.start.missingHeld)
    (h54 : s.start.missingHeld = true → (s.record 54).isSome = true) (held : s.start.conflictHeld = true)
    (gone : roleConflict s.start.population = false) :
    ∃ t, exec (.clashAgeExpiry i) s = .next t
      ∧ OnlyChanges [.start, .engine] s t
      ∧ t.start = { s.start with conflictHeld := false }
      ∧ ConditionEnds 53 s t
      ∧ t.engine = { s.engine with records := t.engine.records } := by
  let u := s.setStart { s.start with conflictHeld := false }
  have marked : s.markPopulation = u := by rw [State.markPopulation, hm, gone]
  have presented : u.checkCondition s.start.missingHeld s.start.missingHeld roleMissingRaise = u := by
    rw [State.checkCondition_of_same]
    split
    next h =>
      obtain ⟨r, hr⟩ := Option.isSome_iff_exists.1 (h54 h)
      have present : u.record roleMissingRaise.code = some r := hr
      rw [State.present, present]
    next => rfl
  have checked : s.populationCheck = u.conditionGone 53 := by
    rw [State.populationCheck_eq, marked, hm, presented, held, gone]; rfl
  have sources : u.resolved = s.resolved := State.resolved_congr rfl rfl rfl (fun _ => rfl) fun _ _ => rfl
  have still' : Settled (u.conditionGone 53) := (Works.conditionGone u 53).settled ⟨sources.trans still.1, still.2⟩
  have follow : PinsFollow u := pins
  have station : (u.conditionGone 53).station = s.station := rfl
  have done : s.finish (u.conditionGone 53) = u.conditionGone 53 :=
    (State.finish_of_settled still' station).trans
      (State.handOver_of_follow (s0 := s) rfl rfl rfl (u.conditionGone_inputs 53) (follow.conditionGone 53))
  have due : (s.station.riding && decide ((s.start.population.get i).clash = 0)) = true := by
    rw [hst, hc]; rfl
  refine ⟨u.conditionGone 53, congrArg Host.Outcome.next ?_, ⟨rfl, fun b hb => ?_⟩, rfl,
    (ConditionEnds.conditionGone u 53).of_engine rfl rfl rfl rfl, rfl⟩
  · exact (if_pos due).trans ((congrArg s.finish checked).trans done)
  · revert hb; cases b <;> simp [SameBlock] <;> rfl

/-- Settles O33: the own expiry by the parts of start control, CLASH_AGE_EXPIRY by one run of the check. -/
theorem clashAgeExpiryRechecksRoles : Obligations.ClashAgeExpiryRechecksRoles := by
  intro i later s
  refine ⟨fun h => ⟨_, rfl, fun j => ?_, fun hr hc hl => expiry_marked later hr hc hl⟩, clash_age_expired⟩
  rw [(expiry_population later h).1, Six.get_map]; rfl

end Sys2Proof.Machine
end

section
/-! The entry to RUN: what the fourth own expiry in JOIN, or ENTRY_TO_RUN after it, leaves of the selector, of its two
records and of the contactor sequence. -/

namespace Sys2Proof.Machine

/-! ### What an entry fills up -/

theorem generalCount_take (s : State) (c : Nat) (l : Level) :
    generalCount (s.take c l).engine.records = generalCount s.engine.records := by
  rw [take_engine]
  exact generalCount_mapRecord c (g := fun r => { r with taken := true }) (fun _ => rfl) _

theorem generalCount_retake (s : State) : generalCount s.retake.engine.records = generalCount s.engine.records := by
  unfold State.retake; split
  · rfl
  · exact generalCount_take s _ _

theorem generalCount_createRecord (s : State) (r : Record) :
    generalCount (s.createRecord r).engine.records
      = generalCount s.engine.records + if isGeneral r.code then 1 else 0 := by
  have inserted : generalCount (s.setRecords (insertRecord r s.engine.records)).engine.records = _ :=
    generalCount_insertRecord r s.engine.records
  unfold State.createRecord; simp only; split
  · rw [generalCount_take, inserted]
  · exact inserted

/-- Where a replacement finds its record, the general slot it leaves is taken again (R101). -/
theorem Fills.replace {s : State} (ht : TableLaw s.engine.records) {a : Raise} (hg : isGeneral a.code = true)
    (h4 : a.code ≠ 4) (hp : (s.record a.code).isSome = true) : Fills s (s.replace a) := by
  refine .of_counts ?_ fun h => by rwa [State.replace_bare ht hp, if_neg (Ne.symm h4)] at h
  obtain ⟨r, hr⟩ := Option.isSome_iff_exists.1 hp
  let d := (s.abandonAt a.level).detach a.code
  have hr' : (s.abandonAt a.level).record a.code = some r := by rw [State.abandonAt_record]; exact hr
  have count : generalCount d.engine.records + 1 = generalCount s.engine.records := by
    have erased := ht.generalCount_erase hr hg
    simp only [d, State.detach, hr', State.setEngine_engine, State.abandonAt_engine]
    exact erased
  have free : (isGeneral a.code && d.generalFull) = false := by
    have room := ht.2
    rw [hg, Bool.true_and, State.generalFull, decide_eq_false_iff_not, not_le]; omega
  have created : s.replace a = (d.createRecord (a.record d.engine.beaconCount)).retake := by
    rw [State.replace, State.raiseAbsent, free]; rfl
  rw [created, generalCount_retake, generalCount_createRecord, Raise.record_code, hg, if_pos rfl, count]

theorem Fills.evalDown (s : State) (i : Station) (e e' : PeerEntry) : Fills s (s.evalDown i e e') := by
  unfold State.evalDown; repeat' split
  · exact .refl s
  · exact .raise s _
  · exact .conditionGone s _
  · exact .refl s

theorem isGeneral_of_le {c : Nat} (h : 8 ≤ c) : isGeneral c = true := decide_eq_true h

/-- Of an adopted level only a replacement needs the table's law. -/
theorem Fills.adoptLevel {s : State} (i : Station) {l : Option Level} (h : TableLaw s.engine.records ∨ l = none) :
    Fills s (s.adoptLevel i l) := by
  unfold State.adoptLevel
  split
  · exact .refl s
  · exact .raise s _
  · split
    · exact .conditionGone s _
    · exact .refl s
  next r l hr =>
    have ht : TableLaw s.engine.records := h.resolve_right nofun
    split
    · exact .replace ht (isGeneral_of_le (show 8 ≤ 38 + i.val by omega)) (show 38 + i.val ≠ 4 by omega)
        (Option.isSome_iff_exists.2 ⟨r, hr⟩)
    · split
      · split
        · exact .conditionGone s _
        · exact .refl s
      · split
        · exact .raise s _
        · exact .refl s

theorem Fills.evalPosture {s : State} (i : Station) {e e' : PeerEntry}
    (h : TableLaw s.engine.records ∨ e'.adopted = none) : Fills s (s.evalPosture i e e') := by
  unfold State.evalPosture; split
  · exact .refl s
  · exact .adoptLevel i h

theorem Fills.compareAtTrust (s : State) (e e' : PeerEntry) : Fills s (s.compareAtTrust e e') := by
  unfold State.compareAtTrust; split
  · exact .refl s
  · exact .compareQuorum s

theorem Fills.entered (s : State) (i : Station) (e' : PeerEntry) : Fills s (s.entered i e') :=
  .of_engine (s.entered_engine i e')

/-- An entry that is not trusted adopts no level (R52). -/
theorem adopted_of_untrusted {e : PeerEntry} (h : e.state.trusted = false) : e.adopted = none := by
  rw [PeerEntry.adopted, h]; rfl

theorem Fills.updatePeer {s : State} (i : Station) {e' : PeerEntry}
    (h : TableLaw s.engine.records ∨ e'.state.trusted = false) : Fills s (s.updatePeer i e') := by
  have down : Fills s (s.downEvaluated i e') := (Fills.entered s i e').trans (.evalDown _ i _ e')
  have table : TableLaw (s.downEvaluated i e').engine.records ∨ e'.adopted = none :=
    h.imp (fun ht => (Works.evalDown _ i _ e').table (by rw [s.entered_engine]; exact ht)) adopted_of_untrusted
  exact ((down.trans (.evalPosture i table)).trans (.conditionNow _ _ _ _)).trans (.compareAtTrust _ _ e')

theorem Fills.startProbation (s : State) : Fills s s.startProbation := by
  have started : ∀ (p : Option Probation) (i : Station) (e : PeerEntry),
      Fills s ((s.setIsolation { s.isolation with probation := p }).updatePeer i e.onProbation) := fun p i e =>
    (Fills.of_engine (t := s.setIsolation { s.isolation with probation := p }) rfl).trans
      (.updatePeer i (.inr rfl))
  unfold State.startProbation; split
  · split
    · exact started ..
    · exact .refl s
  · exact .refl s

/-! ### The end of a handling and the records of no entry -/

/-- The start of a probation touches the records of its entry, CEASED and OVERFLOW (R50, R141). -/
theorem State.startProbation_bare (s : State) {c : Nat} (hc : 50 ≤ c) : s.startProbation.bare c = s.bare c := by
  have started : ∀ (p : Option Probation) (i : Station) (e : PeerEntry),
      ((s.setIsolation { s.isolation with probation := p }).updatePeer i e).bare c = s.bare c := fun p i e => by
    rw [updatePeer_bare _ _ _ (by omega) (by omega) (by omega) (by omega) (by omega)]; rfl
  unfold startProbation; split
  · split
    · exact started ..
    · rfl
  · rfl

theorem State.startProbation_selector (s : State) : s.startProbation.selector = s.selector := by
  have started : ∀ (p : Option Probation) (i : Station) (e : PeerEntry),
      ((s.setIsolation { s.isolation with probation := p }).updatePeer i e).selector = s.selector := fun p i e => by
    rw [(Works.updatePeer _ i e).selector, entered_selector]; rfl
  unfold startProbation; split
  · split
    · exact started ..
    · rfl
  · rfl

/-- The end of a handling that abandons no park. -/
theorem State.finish_of_unparked {s0 : State} (m : State) (h0 : s0.station ≠ .parking) :
    s0.finish m = s0.handOver m.refreshServed.startProbation := by
  have same : s0.checkAfterPark m.refreshServed.startProbation = m.refreshServed.startProbation :=
    if_neg fun h => h0 h.1
  rw [finish, same]

/-! ### Conditions of the selector -/

/-- SPEED-UNKNOWN and CHARGE-INTERLOCK hold as the served values say (R67, R69). -/
def ConditionsFit (x : Selector) : Prop :=
  (x.speedUnknown = true ↔ x.served.speed = none) ∧ (x.chargeHolds = true ↔ ∃ c ∈ x.served.charger, c.value = 1)

theorem conditionsFit_of_eq {x : Selector} (hs : x.speedUnknown = x.served.speed.isNone)
    (hc : x.chargeHolds = decide (servedValue x.served.charger = 1)) : ConditionsFit x := by
  refine ⟨by rw [hs, Option.isNone_iff_eq_none], ?_⟩
  rw [hc, decide_eq_true_iff]
  cases x.served.charger with
  | none => simp [servedValue]
  | some v => simp [servedValue]

/-- A resolution in RUN and PARKING makes the conditions fit. -/
theorem conditionsFit_resolvedSelector {s : State} (h : s.station.riding = true) : ConditionsFit s.resolvedSelector := by
  refine conditionsFit_of_eq ?_ ?_
  · rw [State.resolvedSelector_served, State.resolvedSelector, h]; rfl
  · rw [State.resolvedSelector_served, State.resolvedSelector, h]; rfl

theorem conditionsFit_refreshedSelector {s : State} (h : s.station.riding = true) (hs : ConditionsFit s.selector) :
    ConditionsFit s.refreshedSelector := by
  unfold State.refreshedSelector; split
  · exact hs
  · exact conditionsFit_resolvedSelector h

/-! ### The entry to RUN -/

/-- The state in which SPEED-UNKNOWN is evaluated at the entry to RUN (R61). -/
def State.speedAtEntry (s : State) : State :=
  s.setSelector { s.selector with speedUnknown := s.selector.served.speed.isNone }

/-- The state in which CHARGE-INTERLOCK is evaluated at the entry to RUN (R61). -/
def State.chargeAtEntry (s : State) : State :=
  let u := s.speedAtEntry.conditionNow false s.selector.served.speed.isNone speedUnknownRaise
  u.setSelector { u.selector with chargeHolds := decide (servedValue s.selector.served.charger = 1) }

theorem State.checkCharge_of_cleared (u : State) :
    (u.setSelector { u.selector with chargeHolds := false }).checkCharge
      = (u.setSelector { u.selector with chargeHolds := decide (servedValue u.selector.served.charger = 1)
          }).conditionNow false (decide (servedValue u.selector.served.charger = 1)) chargeInterlockRaise := rfl

theorem State.checkSpeedUnknown_of_cleared (s : State) :
    (s.setSelector { s.selector with speedUnknown := false }).checkSpeedUnknown
      = s.speedAtEntry.conditionNow false s.selector.served.speed.isNone speedUnknownRaise := rfl

theorem State.raiseAtEntry_eq (s : State) :
    s.raiseAtEntry = s.chargeAtEntry.conditionNow false (decide (servedValue s.selector.served.charger = 1))
      chargeInterlockRaise := by
  have works : Works s.speedAtEntry _ :=
    .conditionNow s.speedAtEntry false s.selector.served.speed.isNone speedUnknownRaise
  have served : (s.speedAtEntry.conditionNow false s.selector.served.speed.isNone speedUnknownRaise).selector.served
      = s.selector.served := by rw [works.selector]; rfl
  rw [raiseAtEntry]
  simp only
  rw [checkSpeedUnknown_of_cleared, checkCharge_of_cleared, served, chargeAtEntry]

/-- The selector after the entry (R61). -/
def enteredSelector (x : Selector) : Selector :=
  { x with speedUnknown := x.served.speed.isNone, chargeHolds := decide (servedValue x.served.charger = 1) }

theorem conditionsFit_enteredSelector (x : Selector) : ConditionsFit (enteredSelector x) := conditionsFit_of_eq rfl rfl

theorem State.raiseAtEntry_bare (s : State) {c : Nat} (h57 : c ≠ 57) (h59 : c ≠ 59) (h4 : c ≠ 4) :
    s.raiseAtEntry.bare c = s.bare c := by
  rw [raiseAtEntry_eq, conditionNow_bare _ _ _ h59 h4]
  exact conditionNow_bare s.speedAtEntry _ _ h57 h4

end Sys2Proof.Machine
end

section
/-! The fourth own expiry in JOIN and ENTRY_TO_RUN. -/

namespace Sys2Proof.Machine

/-! ### What the entry to RUN leaves -/

theorem Works.raiseAtEntry (s : State) : Works (s.setSelector (enteredSelector s.selector)) s.raiseAtEntry := by
  have first : Works s.speedAtEntry _ :=
    .conditionNow s.speedAtEntry false s.selector.served.speed.isNone speedUnknownRaise
  have noted : s.setSelector (enteredSelector s.selector) = s.speedAtEntry.setSelector { s.speedAtEntry.selector with
      chargeHolds := decide (servedValue s.selector.served.charger = 1) } := rfl
  rw [State.raiseAtEntry_eq, noted]
  refine Works.trans ?_ (.conditionNow ..)
  rw [State.chargeAtEntry]
  simp only
  rw [first.selector]
  exact first.setSelector _

/-- The population check of the entry to RUN (R10). -/
def State.populatedRun (s : State) : State :=
  (s.setStart { s.start with station := .run, everRun := true }).populationCheck

theorem Works.populatedRun (s : State) : Works s.enteredRun s.populatedRun := .populationCheck _

theorem State.populatedRun_selector (s : State) : s.populatedRun.selector = s.selector := (Works.populatedRun s).selector

theorem Works.checkedRun (s : State) :
    Works (s.enteredRun.setSelector (enteredSelector s.selector)) s.checkedRun := by
  have populated := (Works.populatedRun s).setSelector (enteredSelector s.selector)
  have raised := Works.raiseAtEntry s.populatedRun
  rw [s.populatedRun_selector] at raised
  exact (populated.trans raised).trans (.compareQuorum _)

theorem State.checkedRun_selector (s : State) : s.checkedRun.selector = enteredSelector s.selector :=
  (Works.checkedRun s).selector

theorem State.enteredRun_ne (s : State) : s.enteredRun.station ≠ .parking := nofun

/-- SPEED-UNKNOWN at the entry to RUN (R61, R67). -/
theorem State.checkedRun_bare_speed (s : State) :
    s.checkedRun.bare 57 = (s.populatedRun.speedAtEntry.conditionNow false s.selector.served.speed.isNone
      speedUnknownRaise).bare 57 := by
  have raised : s.checkedRun.bare 57 = s.populatedRun.raiseAtEntry.bare 57 := compareQuorum_bare _ (by decide)
  rw [raised, raiseAtEntry_eq, conditionNow_bare _ _ _ (by decide) (by decide), ← s.populatedRun_selector]; rfl

/-- CHARGE-INTERLOCK at the entry to RUN (R61, R69). -/
theorem State.checkedRun_bare_charge (s : State) :
    s.checkedRun.bare 59 = (s.populatedRun.chargeAtEntry.conditionNow false
      (decide (servedValue s.selector.served.charger = 1)) chargeInterlockRaise).bare 59 := by
  have raised : s.checkedRun.bare 59 = s.populatedRun.raiseAtEntry.bare 59 := compareQuorum_bare _ (by decide)
  rw [raised, raiseAtEntry_eq, s.populatedRun_selector]

theorem State.populatedRun_bare (s : State) {c : Nat} (h54 : c ≠ 54) (h53 : c ≠ 53) (h4 : c ≠ 4) :
    s.populatedRun.bare c = s.bare c := by
  rw [populatedRun, populationCheck_bare _ h54 h53 h4]; rfl

theorem State.checkedRun_bare (s : State) {c : Nat} (h57 : c ≠ 57) (h59 : c ≠ 59) (h3 : c ≠ 3) (h4 : c ≠ 4) :
    s.checkedRun.bare c = s.populatedRun.bare c := by
  rw [show s.checkedRun = s.populatedRun.raiseAtEntry.compareQuorum from rfl, compareQuorum_bare _ h3,
    raiseAtEntry_bare _ h57 h59 h4]

theorem Fills.checkedRun_charge (s : State) :
    Fills (s.populatedRun.chargeAtEntry.conditionNow false (decide (servedValue s.selector.served.charger = 1))
      chargeInterlockRaise) s.checkedRun := by
  rw [← s.populatedRun_selector, ← State.raiseAtEntry_eq]
  exact .compareQuorum _

theorem Fills.checkedRun_speed (s : State) :
    Fills (s.populatedRun.speedAtEntry.conditionNow false s.selector.served.speed.isNone speedUnknownRaise)
      s.checkedRun := by
  refine Fills.trans ?_ (.checkedRun_charge s)
  refine Fills.trans (.of_engine ?_) (.conditionNow _ _ _ _)
  rw [State.chargeAtEntry, s.populatedRun_selector]; rfl

/-- The two conditions are raised where they hold (R61), and nothing after the entry touches their records. -/
theorem entry_records {s t : State} (h57 : t.bare 57 = s.checkedRun.bare 57) (h59 : t.bare 59 = s.checkedRun.bare 59)
    (fills : Fills s.checkedRun t) (count : t.engine.beaconCount = s.engine.beaconCount) :
    RecordFollows false s.selector.served.speed.isNone { code := 57, level := 5, fm := 256, fr := 256 } s t
      ∧ RecordFollows false (decide (servedValue s.selector.served.charger = 1))
          { code := 59, level := 6, fm := 0, fr := 0 } s t := by
  have populated : s.populatedRun.engine.beaconCount = s.engine.beaconCount := (Works.populatedRun s).counts.1
  have speed : (s.populatedRun.speedAtEntry.conditionNow false s.selector.served.speed.isNone
      speedUnknownRaise).engine.beaconCount = s.engine.beaconCount := (Works.conditionNow ..).counts.1.trans populated
  have charge : s.populatedRun.chargeAtEntry.engine.beaconCount = s.engine.beaconCount := by
    rw [State.chargeAtEntry, s.populatedRun_selector]; exact speed
  have pre59 : s.populatedRun.chargeAtEntry.bare 59 = s.bare 59 := by
    have noted : s.populatedRun.chargeAtEntry.bare 59 = (s.populatedRun.speedAtEntry.conditionNow false
        s.populatedRun.selector.served.speed.isNone speedUnknownRaise).bare 59 := rfl
    rw [noted, State.conditionNow_bare _ _ _ (by decide) (by decide)]
    exact s.populatedRun_bare (by decide) (by decide) (by decide)
  refine ⟨?_, ?_⟩
  · exact RecordFollows.conditionNow (u := s.populatedRun.speedAtEntry) speedUnknown_synthetic
      (s.populatedRun_bare (by decide) (by decide) (by decide)) (h57.trans s.checkedRun_bare_speed)
      ((Fills.checkedRun_speed s).trans fills) (count.trans populated.symm)
  · exact RecordFollows.conditionNow (u := s.populatedRun.chargeAtEntry) chargeInterlock_synthetic pre59
      (h59.trans s.checkedRun_bare_charge) ((Fills.checkedRun_charge s).trans fills) (count.trans charge.symm)

/-! ### The end of a handling that has entered RUN -/

theorem State.enterRun_start (s : State) : s.enterRun.start = s.enteredRun.start := by
  rw [enterRun_eq, startAtEntry_eq]
  exact (Course.checkedRun s).start_eq s.enteredRun_ne

theorem State.enterRun_station (s : State) : s.enterRun.station = .run := by rw [station, enterRun_start]; rfl

theorem State.enterRun_selector (s : State) : s.enterRun.selector = enteredSelector s.selector := by
  rw [enterRun_eq, startAtEntry_eq]; exact s.checkedRun_selector

theorem State.enterRun_engine (s : State) : s.enterRun.engine = s.checkedRun.engine := by
  rw [enterRun_eq, startAtEntry_eq]; rfl

/-- The sources stay at an entry to RUN. -/
theorem State.enterRun_resolved (s : State) : s.enterRun.resolved = s.resolved := by
  have works := Works.checkedRun s
  have base : (s.enteredRun.setSelector (enteredSelector s.selector)).resolved = s.resolved :=
    resolved_congr rfl rfl rfl (fun _ => rfl) fun _ _ => rfl
  rw [← base, ← works.resolved, enterRun_eq, startAtEntry_eq]
  exact resolved_congr rfl rfl rfl (fun _ => rfl) fun _ _ => rfl

/-- The end of the handling, which hands over from a state in RUN. -/
theorem State.finish_enterRun {s0 : State} (s : State) (h0 : s0.station ≠ .parking) :
    s0.finish s.enterRun = s0.handOver s.enterRun.refreshServed.startProbation := finish_of_unparked _ h0

theorem State.enterRun_ne (s : State) : s.enterRun.station ≠ .parking := by rw [enterRun_station]; decide

section
variable {s0 s t : State} (h0 : s0.station ≠ .parking) (ht : t = s0.finish s.enterRun)
include h0 ht

theorem entered_start : t.start = s.enteredRun.start := by
  rw [ht, State.finish_enterRun s h0, State.handOver_start, (Course.settle s.enterRun).start_eq s.enterRun_ne,
    State.enterRun_start]

theorem entered_station : t.station = .run := by rw [State.station, entered_start h0 ht]; rfl

theorem entered_everRun : t.start.everRun = true := by rw [entered_start h0 ht]; rfl

theorem entered_selector : t.selector = s.enterRun.refreshedSelector := by
  rw [ht, State.finish_enterRun s h0, State.handOver_selector, State.startProbation_selector, State.refreshServed_selector]
  rw [State.enterRun_station]; exact ⟨nofun, nofun⟩

/-- The conditions of the selector fit after the entry (R67, R69). -/
theorem entered_conditions : ConditionsLaw t := by
  intro _
  rw [entered_selector h0 ht]
  refine conditionsFit_refreshedSelector (by rw [State.enterRun_station]; rfl) ?_
  rw [State.enterRun_selector]; exact conditionsFit_enteredSelector _

theorem entered_supervision : t.supervision = s.supervisionAtEntry := by
  rw [ht, State.finish_enterRun s h0, State.handOver_supervision, (Course.settle s.enterRun).supervision, State.enterRun_eq,
    State.startAtEntry_eq]
  show s.checkedRun.supervisionAtEntry = _
  have course := Course.checkedRun s
  rw [State.supervisionAtEntry, course.supervision, course.config]; rfl

theorem entered_onlyChanges :
    OnlyChanges [.start, .line, .peers, .selector, .isolation, .engine, .envelope, .supervision, .pins] s t := by
  have first : OnlyChanges [.start] s s.enteredRun :=
    ⟨rfl, fun b hb => by revert hb; cases b <;> simp [SameBlock] <;> rfl⟩
  have second := (Course.checkedRun s).onlyChanges s.enteredRun_ne
  have third : OnlyChanges [.supervision] s.checkedRun s.enterRun := by
    rw [State.enterRun_eq, State.startAtEntry_eq]
    exact ⟨rfl, fun b hb => by revert hb; cases b <;> simp [SameBlock]⟩
  have fourth := (Course.settle s.enterRun).onlyChanges s.enterRun_ne
  rw [ht, State.finish_enterRun s h0]
  exact ((((first.mono (by decide)).trans (second.mono (by decide))).trans (third.mono (by decide))).trans
    (fourth.mono (by decide))).trans ((OnlyChanges.handOver s0 _).mono (by decide))

theorem entered_bare {c : Nat} (hc : 50 ≤ c) (h57 : c ≠ 57) (h59 : c ≠ 59) : t.bare c = s.populatedRun.bare c := by
  have res : resolving s.enterRun.station := by rw [State.enterRun_station]; exact ⟨nofun, nofun⟩
  rw [ht, State.finish_enterRun s h0, State.handOver_bare, State.startProbation_bare _ hc,
    State.refreshServed_bare res h57 h59 (by omega), State.bare_of_engine s.enterRun_engine,
    s.checkedRun_bare h57 h59 (by omega) (by omega)]

/-- Where the served values were those of the sources, the entry's raises are the last that touch its two records. -/
theorem entered_records (still : s.resolved = s.selector.served) :
    RecordFollows false t.selector.speedUnknown { code := 57, level := 5, fm := 256, fr := 256 } s t
      ∧ RecordFollows false t.selector.chargeHolds { code := 59, level := 6, fm := 0, fr := 0 } s t := by
  have served : s.enterRun.resolved = s.enterRun.selector.served := by
    rw [State.enterRun_resolved, State.enterRun_selector]; exact still
  have selector : t.selector = enteredSelector s.selector := by
    rw [entered_selector h0 ht, State.refreshedSelector, if_pos served, State.enterRun_selector]
  have done : t = s0.handOver s.enterRun.startProbation := by
    rw [ht, State.finish_enterRun s h0, State.refreshServed_of_resolved served]
  have kept : ∀ c, 50 ≤ c → t.bare c = s.checkedRun.bare c := fun c hc => by
    rw [done, State.handOver_bare, State.startProbation_bare _ hc, State.bare_of_engine s.enterRun_engine]
  have fills : Fills s.checkedRun t := by
    rw [done]
    exact ((Fills.of_engine s.enterRun_engine).trans (.startProbation _)).trans (.handOver s0 _)
  have count : t.engine.beaconCount = s.engine.beaconCount := by
    rw [done, State.handOver_beaconCount, (Course.startProbation _).counts.1, s.enterRun_engine,
      (Course.checkedRun s).counts.1]
    rfl
  rw [selector]
  exact entry_records (kept 57 (by decide)) (kept 59 (by decide)) fills count

end

/-! ### ENTRY_TO_RUN -/

/-- ROLE-MISSING where it is absent at the entry and a slot is free (R10, R76). -/
theorem State.populatedRun_missing {s : State} (hm : roleMissing s.start.population = true) (ha : s.record 54 = none)
    (hf : s.generalFull = false) :
    s.populatedRun.bare 54 = some { roleMissingRaise.record s.engine.beaconCount with taken := false } := by
  have absent : s.enteredRun.record 54 = none := ha
  have free : s.enteredRun.generalFull = false := hf
  let u := s.enteredRun.checkCondition s.start.missingHeld true roleMissingRaise
  have populated : s.populatedRun = u.checkCondition s.start.conflictHeld (roleConflict s.start.population)
      roleConflictRaise := by
    show (s.enteredRun.checkCondition s.start.missingHeld (roleMissing s.start.population)
      roleMissingRaise).checkCondition _ _ _ = _
    rw [hm]; rfl
  have raised : (s.enteredRun.raise roleMissingRaise).bare 54
      = some { roleMissingRaise.record s.engine.beaconCount with taken := false } := by
    rw [raise_bare _ _ (by decide), if_pos (show 54 = roleMissingRaise.code from rfl), bare_eq_none.2 absent, raisedRecord, free, Bool.and_false]; rfl
  have presented : s.enteredRun.present roleMissingRaise = s.enteredRun.raise roleMissingRaise := by
    have absent' : s.enteredRun.record roleMissingRaise.code = none := absent
    rw [present, absent', free, Bool.and_false]; rfl
  rw [populated, checkCondition_bare _ _ _ (by decide) (by decide) (by decide)]
  show (s.enteredRun.raiseOrPresent (!s.start.missingHeld) roleMissingRaise).bare 54 = _
  unfold raiseOrPresent
  split
  · exact raised
  · rw [presented]; exact raised

/-- A PACK's contactor sequence is placed at the entry to RUN (R117). -/
theorem placed_contactor {s0 s : State} (h0 : s0.station = .join) (hs : s.station = .run)
    (hp : s.start.straps.role = .pack) :
    (s0.handOver s).engine.contactor = if s.engine.cl = 7 then .released else .held := by
  have placed : s0.handToContactor s = s.placeContactor := by
    have moves : s.start.straps.role = .pack ∧ s.station.riding = true ∧ s0.contactorMoved s = true :=
      ⟨hp, by rw [hs]; rfl, decide_eq_true (.inr (.inl h0))⟩
    rw [State.handToContactor, if_pos moves, if_pos h0]
  have engine : (s0.handOver s).engine = s.placeContactor.engine := by
    rw [State.handOver, placed]
    have envelope : ∀ u : State, (s0.handToEnvelope u).engine = u.engine := fun u => by
      unfold State.handToEnvelope State.recompute; split <;> rfl
    have suspension : ∀ u : State, (s0.followSuspension u).engine = u.engine := fun u => by
      unfold State.followSuspension; split <;> rfl
    show (s0.handToEnvelope _).engine = _
    rw [envelope, suspension]
  rw [engine]; unfold State.placeContactor; split <;> rfl

/-- ENTRY_TO_RUN (R8, R10, R61, R117, R158). -/
theorem entry_to_run {s : State} (hst : s.station = .join) (hd : 4 ≤ s.start.discovery) :
    ∃ t, exec .entryToRun s = .next t ∧ t.station = .run ∧ t.start.everRun = true
      ∧ OnlyChanges [.start, .line, .peers, .selector, .isolation, .engine, .envelope, .supervision, .pins] s t
      ∧ t.supervision =
          (if s.config.startMode = .auto ∧ s.supervision.running = false then
            { s.supervision with running := true, count := s.config.reload }
          else s.supervision)
      ∧ t.start.missingHeld = roleMissing s.start.population
      ∧ t.start.conflictHeld = roleConflict s.start.population
      ∧ (roleMissing s.start.population = true → s.record 54 = none → s.generalFull = false →
          ∃ r ∈ t.record 54, r.level = 6 ∧ r.fm = 0 ∧ r.fr = 128 ∧ r.life = .holds)
      ∧ ConditionsLaw t
      ∧ (Settled s →
          RecordFollows false t.selector.speedUnknown { code := 57, level := 5, fm := 256, fr := 256 } s t
            ∧ RecordFollows false t.selector.chargeHolds { code := 59, level := 6, fm := 0, fr := 0 } s t)
      ∧ (s.start.straps.role = .pack →
          t.engine.contactor = if t.engine.cl = 7 then .released else .held)
      ∧ PinsFollow t := by
  have h0 : s.station ≠ .parking := by rw [hst]; decide
  have due : decide (s.station = .join ∧ Config.joinPeriods ≤ s.start.discovery) = true := decide_eq_true ⟨hst, hd⟩
  have start := entered_start (s := s) h0 rfl
  refine ⟨s.finish s.enterRun, congrArg Host.Outcome.next (if_pos due), entered_station h0 rfl,
    entered_everRun h0 rfl, entered_onlyChanges h0 rfl, entered_supervision h0 rfl, by rw [start]; rfl, by rw [start]; rfl,
    fun hm ha hf => ?_, entered_conditions h0 rfl, fun still => entered_records h0 rfl still.1, fun hp => ?_, ?_⟩
  · have kept := (entered_bare (s := s) h0 rfl (c := 54) (by decide) (by decide) (by decide)).trans
      (State.populatedRun_missing hm ha hf)
    obtain ⟨b, found⟩ := bare_some kept
    exact ⟨_, found, rfl, rfl, rfl, rfl⟩
  · rw [State.finish_enterRun s h0]
    have course := Course.settle s.enterRun
    have station := (course.station_eq s.enterRun_ne).trans s.enterRun_station
    have role : s.enterRun.refreshServed.startProbation.start.straps.role = .pack := by
      rw [course.straps, State.enterRun_start]; exact hp
    rw [placed_contactor hst station role, State.handOver_cl]
  · rw [State.finish_enterRun s h0]; exact PinsFollow.drivePins _

end Sys2Proof.Machine
end

section
/-! The own expiry in JOIN. -/

namespace Sys2Proof.Machine

/-! ### Records that an own expiry leaves absent -/

/-- No record of `c` comes into the table by the counts and the ends of dwells (R81, R82). -/
theorem State.expiryCounted_bare_none (later : List Later) (s : State) {c : Nat} (h : s.bare c = none) :
    (s.expiryCounted later).bare c = none := by
  have removed : ∀ (l : List Nat) (u : State), u.bare c = none → (l.foldl State.removeRecord u).bare c = none := by
    intro l
    induction l with
    | nil => exact fun _ hu => hu
    | cons d l ih =>
      intro u hu
      exact ih _ (by rw [removeRecord_bare, hu, ite_self])
  obtain ⟨k, n, hr⟩ := (((s.setStart { s.start with beaconTimer := some (periodMs s.config.period) }).countRecords
    later)).countRelease_eq later
  have counted : (s.setEngine s.engine.counted).bare c = none := by
    rw [bare_eq_none] at h ⊢
    have found : ∀ l : List Record, findRecord c l = none → findRecord c (l.map countDwell) = none := by
      intro l
      induction l with
      | nil => exact id
      | cons r l ih =>
        intro hl
        rw [findRecord_cons] at hl
        rw [List.map_cons, findRecord_cons, countDwell_code]
        split at hl
        next => cases hl
        next hc => rw [if_neg hc]; exact ih hl
    exact found _ h
  rw [expiryCounted, hr]
  exact removed _ _ counted

theorem State.giveReadmit_engine (s : State) (i : Station) : (s.giveReadmit i).engine = s.engine := by
  unfold giveReadmit; split <;> rfl

theorem State.retryOwed_engine (s : State) : s.retryOwed.engine = s.engine := by
  have fold : ∀ (l : List Station) (u : State), (l.foldl State.giveReadmit u).engine = u.engine := by
    intro l
    induction l with
    | nil => exact fun _ => rfl
    | cons i l ih => exact fun u => (ih _).trans (u.giveReadmit_engine i)
  exact fold _ s

theorem State.presentIf_bare (s : State) (b : Bool) {a : Raise} {c : Nat} (h4 : a.code ≠ 4) (hc : c ≠ a.code) :
    (s.presentIf b a).bare c = s.bare c := by
  unfold presentIf; split
  · rw [present_bare s h4, if_neg hc]
  · rfl

theorem State.presentPeer_bare (s : State) (i : Station) {c : Nat} (hc : 50 ≤ c) : (s.presentPeer i).bare c = s.bare c := by
  let d := s.presentIf (s.peer i).state.down (s.downRaise i (s.peer i).downCause)
  let p := d.presentPosture i
  show (p.presentIf ((s.peer i).mismatch p.config.period) (mismatchRaise i)).bare c = _
  rw [presentIf_bare p _ (show 44 + i.val ≠ 4 by omega) (show c ≠ 44 + i.val by omega),
    presentPosture_bare d i (by omega),
    presentIf_bare s _ (show 32 + i.val ≠ 4 by omega) (show c ≠ 32 + i.val by omega)]

theorem State.presentPeers_bare (s : State) {c : Nat} (hc : 50 ≤ c) : s.presentPeers.bare c = s.bare c := by
  have fold : ∀ (l : List Station) (u : State), (l.foldl State.presentPeer u).bare c = u.bare c := by
    intro l
    induction l with
    | nil => exact fun _ => rfl
    | cons i l ih => exact fun u => (ih _).trans (u.presentPeer_bare i hc)
  exact fold _ s

/-- Out of RUN and PARKING a refresh leaves the engine alone (R61). -/
theorem State.refreshServed_engine_of_still {s : State} (h : resolving s.station) (hr : s.station.riding = false) :
    s.refreshServed.engine = s.engine := by
  unfold refreshServed; split
  · rfl
  · rw [resolveQuantities_of_still h hr, recordServed_eq]; rfl

theorem State.presentLine_bare (s : State) {c : Nat} (h50 : c ≠ 50) (h51 : c ≠ 51) (h52 : c ≠ 52) :
    s.presentLine.bare c = s.bare c := by
  unfold presentLine
  simp only
  rw [presentIf_bare _ _ (by decide) h51, presentIf_bare _ _ (by decide) h50, presentIf_bare _ _ (by decide) h52]

/-! ### The freshness counts and the beacon -/

theorem State.mapOwn_station (s : State) (f : OwnValue → OwnValue) : (s.mapOwn f).station = s.station := rfl

theorem State.mapOwn_bare (s : State) (f : OwnValue → OwnValue) (c : Nat) : (s.mapOwn f).bare c = s.bare c := rfl

theorem OnlyChanges.mapOwn (s : State) (f : OwnValue → OwnValue) : OnlyChanges [.selector] s (s.mapOwn f) :=
  ⟨rfl, fun b hb => by revert hb; cases b <;> simp [SameBlock] <;> rfl⟩

theorem OnlyChanges.periodicBeacon (s : State) : OnlyChanges [.line] s s.periodicBeacon := OnlyChanges.setLine s _

theorem State.periodicBeacon_selector (s : State) : s.periodicBeacon.selector = s.selector := rfl

theorem State.periodicBeacon_bare (s : State) (c : Nat) : s.periodicBeacon.bare c = s.bare c := rfl

theorem State.periodicBeacon_resolved (s : State) : s.periodicBeacon.resolved = s.resolved :=
  resolved_congr rfl rfl rfl (fun _ => rfl) fun _ _ => rfl

/-- In JOIN the selector's period resolves the sources after the freshness counts (R57, R61). -/
theorem State.selectorPeriod_of_join {s : State} (later : List Later) (h : s.station = .join) :
    s.selectorPeriod later = (s.mapOwn countFresh).refreshServed := by
  have same : (s.mapOwn countFresh).refreshServed.station = .join := by
    rw [(Course.refreshServed (s.mapOwn countFresh)).station_eq (by rw [mapOwn_station, h]; decide), mapOwn_station, h]
  exact if_neg (by rw [same]; decide)

theorem OnlyChanges.setStart (s : State) (a : StartControl) : OnlyChanges [.start] s (s.setStart a) :=
  ⟨rfl, fun b hb => by revert hb; cases b <;> simp [SameBlock]⟩

theorem State.setStart_resolved (s : State) {a : StartControl} (h : a.straps = s.start.straps) :
    (s.setStart a).resolved = s.resolved :=
  resolved_congr (by rw [own, setStart_start, h]; rfl) rfl rfl (fun _ => rfl) fun _ _ => rfl

theorem State.setDiscovery_resolved (s : State) (n : Nat) :
    (s.setStart { s.start with discovery := n }).resolved = s.resolved := s.setStart_resolved rfl

theorem State.setStart_bare (s : State) (a : StartControl) (c : Nat) : (s.setStart a).bare c = s.bare c := rfl

/-! ### JOIN -/

section
variable {s : State} (later : List Later) (hst : s.station = .join)
include hst

theorem expiryRoles_of_join : s.expiryRoles later = s.expiryClashed later := by
  obtain ⟨v, -, -, still, -⟩ := s.expiryRoles_works later
  obtain ⟨hv, hr⟩ := still (by rw [State.expiryCounted_station, hst]; rfl)
  exact hr.trans hv

theorem expiryClashed_station : (s.expiryClashed later).station = .join :=
  (State.expiryCounted_station later s).trans hst

theorem expiryPeers_station : (s.expiryPeers later).station = .join := by
  have roles : (s.expiryRoles later).station = .join := by
    rw [expiryRoles_of_join later hst]; exact expiryClashed_station later hst
  exact ((Course.expiryPeers later s).station_eq (by rw [roles]; decide)).trans roles

theorem expirySelected_ne : ((s.expiryPeers later).mapOwn countFresh).station ≠ .parking := by
  rw [State.mapOwn_station, expiryPeers_station later hst]; decide

/-- Start control in JOIN up to the beacon: the timer and the clash ages (R8, R9). -/
theorem expirySent_start : (s.expirySent later).start =
    { s.start with
      beaconTimer := some (periodMs s.config.period), population := s.start.population.map Place.countClash } := by
  have clashed : (s.expiryClashed later).start = _ := rfl
  have first := (Course.expiryPeers later s).start_eq (by
    rw [expiryRoles_of_join later hst, expiryClashed_station later hst]; decide)
  have second := (Course.expirySelected later s).start_eq (expirySelected_ne later hst)
  rw [State.mapOwn_start] at second
  rw [State.expirySent, State.periodicBeacon_start, second, first, expiryRoles_of_join later hst]
  simp only [State.expiryClashed, State.setStart_start, State.expiryCounted_start]

theorem expirySent_onlyChanges :
    OnlyChanges [.start, .line, .peers, .selector, .isolation, .engine] s (s.expirySent later) := by
  obtain ⟨e, g, he, -⟩ := s.expiryCounted_eq later
  have counted : OnlyChanges [.start, .line, .engine] s (s.expiryCounted later) := by
    rw [he]; exact ⟨rfl, fun b hb => by revert hb; cases b <;> simp [SameBlock] <;> rfl⟩
  have clashed : OnlyChanges [.start] (s.expiryCounted later) (s.expiryRoles later) := by
    rw [expiryRoles_of_join later hst]
    exact ⟨rfl, fun b hb => by revert hb; cases b <;> simp [SameBlock] <;> rfl⟩
  have peers := (Course.expiryPeers later s).onlyChanges (by
    rw [expiryRoles_of_join later hst, expiryClashed_station later hst]; decide)
  have fresh := OnlyChanges.mapOwn (s.expiryPeers later) countFresh
  have selected := (Course.expirySelected later s).onlyChanges (expirySelected_ne later hst)
  have beacon := OnlyChanges.periodicBeacon ((s.expiryPeers later).selectorPeriod later).presentLine
  exact (((((counted.mono (by decide)).trans (clashed.mono (by decide))).trans (peers.mono (by decide))).trans
    (fresh.mono (by decide))).trans (selected.mono (by decide))).trans (beacon.mono (by decide))

theorem expirySent_served : (s.expirySent later).resolved = (s.expirySent later).selector.served := by
  have station := expiryPeers_station later hst
  rw [State.expirySent, State.periodicBeacon_resolved, State.periodicBeacon_selector,
    State.selectorPeriod_of_join later station]
  have works := Works.presentLine ((s.expiryPeers later).mapOwn countFresh).refreshServed
  rw [works.resolved, works.selector]
  exact State.refreshServed_served (by rw [State.mapOwn_station, station]; exact ⟨nofun, nofun⟩)

theorem expiryPeers_bare {c : Nat} (hc : 50 ≤ c) : (s.expiryPeers later).bare c = (s.expiryClashed later).bare c := by
  let r := s.expiryRoles later
  have clashed : r = s.expiryClashed later := expiryRoles_of_join later hst
  have aged : (r.agePlaces later).bare c = r.bare c := State.compareQuorum_bare _ (by omega)
  have station : (r.agePlaces later).station = .join := by
    rw [(Course.agePlaces later r).station_eq (by rw [clashed, expiryClashed_station later hst]; decide), clashed,
      expiryClashed_station later hst]
  have held : (r.agePlaces later).countHolds = r.agePlaces later := if_neg (by rw [station]; decide)
  have rejoin : (r.agePlaces later).countRejoin later = r.agePlaces later :=
    if_neg (by rw [station]; exact fun h => nomatch h.1)
  have owed : (r.agePlaces later).retryOwed.station = .join := by
    rw [(Course.retryOwed _).station_eq (by rw [station]; decide), station]
  have entries : (r.agePlaces later).retryOwed.peersPeriod later = (r.agePlaces later).retryOwed :=
    if_neg (by rw [owed]; decide)
  have presented := (Works.presentPeers (r.agePlaces later).retryOwed).station_eq (by rw [owed]; decide)
  rw [State.expiryPeers, held, rejoin, entries,
    State.bare_of_engine (State.refreshServed_engine_of_still (by rw [presented, owed]; exact ⟨nofun, nofun⟩)
      (by rw [presented, owed]; rfl)),
    State.presentPeers_bare _ hc, State.bare_of_engine (State.retryOwed_engine _), aged, clashed]

/-- In JOIN an own expiry brings in no record but those of the line, of entries, of CEASED and of OVERFLOW. -/
theorem expirySent_bare_none {c : Nat} (hc : 53 ≤ c) (h : s.bare c = none) : (s.expirySent later).bare c = none := by
  have station := expiryPeers_station later hst
  have still := State.refreshServed_engine_of_still (s := (s.expiryPeers later).mapOwn countFresh)
    (by rw [State.mapOwn_station, station]; exact ⟨nofun, nofun⟩) (by rw [State.mapOwn_station, station]; rfl)
  have clashed : (s.expiryClashed later).bare c = (s.expiryCounted later).bare c := rfl
  rw [State.expirySent, State.periodicBeacon_bare, State.presentLine_bare _ (by omega) (by omega) (by omega),
    State.selectorPeriod_of_join later station, State.bare_of_engine still, State.mapOwn_bare,
    expiryPeers_bare later hst (by omega), clashed]
  exact s.expiryCounted_bare_none later h

/-- The discovery counter after an own expiry in JOIN (R8). -/
def State.discovered (s : State) (later : List Later) : State :=
  (s.expirySent later).setStart { (s.expirySent later).start with discovery := min 4 (s.start.discovery + 1) }

theorem discovered_served : (s.discovered later).resolved = (s.discovered later).selector.served := by
  rw [State.discovered, State.setStart_selector, State.setDiscovery_resolved]; exact expirySent_served later hst

theorem expiryEnded_of_join :
    s.expiryEnded later =
      if 3 ≤ s.start.discovery ∧ .entryToRun ∉ later then (s.discovered later).enterRun else s.discovered later := by
  have start := expirySent_start later hst
  have station : (s.expirySent later).station = .join := by rw [State.station, start]; exact hst
  have count : addSat Config.joinPeriods (s.expirySent later).start.discovery 1 = min 4 (s.start.discovery + 1) := by
    rw [start]; rfl
  have full : (decide (Config.joinPeriods ≤ min 4 (s.start.discovery + 1)) && !later.contains .entryToRun)
      = decide (3 ≤ s.start.discovery ∧ .entryToRun ∉ later) := by
    have reached : Config.joinPeriods ≤ min 4 (s.start.discovery + 1) ↔ 3 ≤ s.start.discovery := by
      show 4 ≤ _ ↔ _; omega
    rw [Bool.eq_iff_iff, Bool.and_eq_true, decide_eq_true_iff, decide_eq_true_iff, reached]; simp
  rw [State.expiryEnded, State.countDiscovery, if_pos station]
  simp only [count, full, decide_eq_true_iff]
  rfl

theorem OnlyChanges.discovered :
    OnlyChanges [.start, .line, .peers, .selector, .isolation, .engine] s (s.discovered later) := by
  have counted := OnlyChanges.setStart (s.expirySent later)
    { (s.expirySent later).start with discovery := min 4 (s.start.discovery + 1) }
  exact (expirySent_onlyChanges later hst).trans (counted.mono (by decide))

end

/-- A condition that begins where its record is absent creates it, or finds every general slot occupied (R76). -/
theorem RecordCreated.of_begun {a : Raise} {s t : State} {b : Bool} (h : RecordFollows false b a s t) (hb : b = true)
    (ha : s.record a.code = none) : RecordCreated a t := by
  subst hb
  have raised : RecordRaised 1 a s t := h
  rw [RecordRaised, ha] at raised
  exact raised.imp id fun h => ⟨h.1, h.2.1⟩

/-- Settles O32: the own expiry by its parts in JOIN, then the entry to RUN. -/
theorem fourthExpiryEntersRun : Obligations.FourthExpiryEntersRun := by
  intro later s hst
  have h0 : s.station ≠ .parking := by rw [hst]; decide
  have onLine : s.station.onLine = true := by rw [hst]; rfl
  have ran : exec (.ownBeaconExpiry later) s = .next (s.finish (s.expiryEnded later)) :=
    congrArg Host.Outcome.next (State.ownExpiry_eq later onLine)
  refine ⟨fun hd => ?_, fun hd hl => ?_, entry_to_run hst⟩
  · have ended : s.expiryEnded later = s.discovered later := by
      rw [expiryEnded_of_join later hst, if_neg (fun h => absurd h.1 (by omega))]
    have start : (s.discovered later).start = { s.start with
        beaconTimer := some (periodMs s.config.period), population := s.start.population.map Place.countClash
        discovery := min 4 (s.start.discovery + 1) } := by
      rw [State.discovered, State.setStart_start, expirySent_start later hst]
    have ne : (s.discovered later).station ≠ .parking := by rw [State.station, start]; exact h0
    have settled := Course.settle (s.discovered later)
    rw [ended] at ran
    refine ⟨_, ran, ?_, ?_, ?_⟩
    · rw [State.finish_of_unparked _ h0, State.handOver_station, settled.station_eq ne, State.station, start]; exact hst
    · rw [State.finish_of_unparked _ h0, State.handOver_start, settled.start_eq ne, start]
      show min 4 (s.start.discovery + 1) = _; omega
    · rw [State.finish_of_unparked _ h0]
      exact (((OnlyChanges.discovered later hst).mono (by decide)).trans ((settled.onlyChanges ne).mono (by decide))).trans
        ((OnlyChanges.handOver s _).mono (by decide))
  · have ended : s.expiryEnded later = (s.discovered later).enterRun := by
      rw [expiryEnded_of_join later hst, if_pos ⟨hd, hl⟩]
    rw [ended] at ran
    have served := discovered_served later hst
    obtain ⟨speed, charge⟩ := entered_records (s := s.discovered later) h0 rfl served
    have absent : ∀ c, 53 ≤ c → s.record c = none → (s.discovered later).record c = none := fun c hc ha =>
      State.bare_eq_none.1 ((State.setStart_bare ..).trans
        (expirySent_bare_none later hst hc (State.bare_eq_none.2 ha)))
    refine ⟨_, ran, entered_station h0 rfl, entered_everRun h0 rfl, entered_conditions h0 rfl,
      fun hs ha => ?_, fun hc ha => ?_, ?_⟩
    · exact RecordCreated.of_begun speed hs (absent 57 (by decide) ha)
    · exact RecordCreated.of_begun charge hc (absent 59 (by decide) ha)
    · exact ((OnlyChanges.discovered later hst).mono (by decide)).trans (entered_onlyChanges h0 rfl)

end Sys2Proof.Machine
end

section
/-! The records of an entry after a frame of its peer: PEER-DOWN, PEER-POSTURE and CONFIG-MISMATCH. -/

namespace Sys2Proof.Machine

/-! ### Records that are created and then presented, or ended -/

/-- A presentation finds what the raise before it has left. -/
theorem RecordCreated.presented {x t : State} {a : Raise} (ha : Synthetic a) (h : RecordCreated a x)
    (post : t.bare a.code = (x.present a).bare a.code) (fills : Fills (x.present a) t)
    (count : t.engine.beaconCount = x.engine.beaconCount) : RecordCreated a t := by
  have same : createdBy a x = createdBy a t := by rw [createdBy, createdBy, count]
  rcases h with hc | ⟨-, hn⟩
  · have present : (x.record a.code).isSome = true := isSome_of_bare hc
    refine .inl ((post.trans (RecordStays.present ha present)).trans ?_)
    rw [← same]; exact hc
  · exact RecordCreated.present ha hn post fills count

/-- A condition begins and ends within one handling (R76, R77, R80). -/
theorem RecordPasses.of_created {s y t : State} {a : Raise} (h : RecordCreated a y) (ha : s.record a.code = none)
    (post : t.bare a.code = (y.conditionGone a.code).bare a.code) (fills : Fills y t)
    (count : t.engine.beaconCount = y.engine.beaconCount) : RecordPasses a s t := by
  have same : createdBy a y = createdBy a t := by rw [createdBy, createdBy, count]
  rw [State.conditionGone_bare, if_pos rfl] at post
  rw [RecordPasses, ha]
  rcases h with hc | ⟨hf, hn⟩
  · refine .inl (post.trans ?_)
    rw [show y.bare a.code = some (createdBy a y) from hc, same]; rfl
  · refine .inr ⟨fills.1 hf, State.bare_eq_none.1 ?_⟩
    rw [post, State.bare_eq_none.2 hn]; rfl

/-- The end of a condition, apart from the taken mark. -/
theorem conditionEnded_untaken (r : Record) : conditionEnded { r with taken := false } = endedFrom r := by
  obtain ⟨_, level, _, _, life, _, _, _, _, _, _, _, _⟩ := r
  cases life <;> simp [conditionEnded, endedFrom, lifeAfterGone, Config.dwellPeriods]

theorem conditionEnded_endedFrom (r : Record) : conditionEnded (endedFrom r) = endedFrom r := by
  obtain ⟨_, level, _, _, life, _, _, _, _, _, _, _, _⟩ := r
  cases life <;> simp only [endedFrom] <;> by_cases h : 5 ≤ level <;> simp [conditionEnded, h]

theorem recordEnds_iff {c : Nat} {s t : State} : RecordEnds c s t ↔ t.bare c = (s.record c).map endedFrom := Iff.rfl

theorem RecordPasses.of_raised {s y t : State} {a : Raise} (h : RecordRaised 1 a s y)
    (post : t.bare a.code = (y.conditionGone a.code).bare a.code) (fills : Fills y t)
    (count : t.engine.beaconCount = y.engine.beaconCount) : RecordPasses a s t := by
  cases hs : s.record a.code with
  | none =>
    rw [RecordRaised, hs] at h
    exact RecordPasses.of_created (h.imp id fun h => ⟨h.1, h.2.1⟩) hs post fills count
  | some r =>
    rw [RecordRaised, hs] at h
    rw [State.conditionGone_bare, if_pos rfl] at post
    rw [RecordPasses, hs]
    refine post.trans ?_
    rw [show y.bare a.code = _ from h, Option.map_some]
    exact congrArg some (conditionEnded_untaken
      { r with count := min 255 (r.count + 1), unread := true, life := .holds, param := a.param })

/-- A condition that has ended already stays so at a second end. -/
theorem RecordEnds.again {c : Nat} {s y t : State} (h : RecordEnds c s y)
    (post : t.bare c = (y.conditionGone c).bare c) : RecordEnds c s t := by
  rw [State.conditionGone_bare, if_pos rfl, recordEnds_iff.1 h, Option.map_map] at post
  refine post.trans ?_
  rw [show conditionEnded ∘ endedFrom = endedFrom from funext conditionEnded_endedFrom]; rfl

theorem RecordEnds.of_stays {c : Nat} {s y t : State} (h : RecordStays c s y)
    (post : t.bare c = (y.conditionGone c).bare c) : RecordEnds c s t := RecordEnds.conditionGone h post

/-! ### PEER-POSTURE -/

theorem postureRaise_synthetic (i : Station) (l : Level) : Synthetic (postureRaise i l) := by
  have code : (postureRaise i l).code = 38 + i.val := rfl
  have hi := i.isLt
  refine ⟨?_, rfl, ?_, ?_⟩
  · unfold originOf; rw [code]
    rw [if_neg (by omega), if_neg (by omega), if_neg (by omega), if_neg (by omega), if_neg (by omega)]
  · rw [code]; omega
  · rw [code]; omega

theorem mismatchRaise_synthetic (i : Station) : Synthetic (mismatchRaise i) := by
  have code : (mismatchRaise i).code = 44 + i.val := rfl
  have hi := i.isLt
  refine ⟨?_, rfl, ?_, ?_⟩
  · unfold originOf; rw [code]
    rw [if_neg (by omega), if_neg (by omega), if_neg (by omega), if_neg (by omega), if_neg (by omega)]
  · rw [code]; omega
  · rw [code]; omega

theorem trusted_iff (x : EntryState) : x.trusted = true ↔ x = .live ∨ x = .suspect := by
  cases x <;> simp [EntryState.trusted]

theorem min_level (l : Level) : min l 6 = if l = 7 then 6 else l := by revert l; decide

/-- The level adopted from an entry, as R52 states it. -/
theorem adopted_eq (e : PeerEntry) : e.adopted = adoptedOf e := by
  simp only [PeerEntry.adopted, adoptedOf, adoptedFrom, trusted_iff, min_level]

theorem mismatch_eq (s : State) (e : PeerEntry) : e.mismatch s.config.period = mismatchOf s e := by
  rw [Bool.eq_iff_iff, PeerEntry.mismatch, mismatchOf, Bool.and_eq_true, decide_eq_true_iff, trusted_iff]
  cases e.period <;> simp

/-- The same record, apart from its taken mark. -/
theorem State.record_of_same {s u : State} {c : Nat} {r : Record} (same : u.bare c = s.bare c) (h : s.record c = some r) :
    ∃ x, u.record c = some x ∧ x.level = r.level ∧ x.life = r.life := by
  obtain ⟨b, hx⟩ := bare_some (same.trans (by rw [bare, h]; rfl))
  exact ⟨_, hx, rfl, rfl⟩

/-! The table of R53, case by case. -/

section
variable {u : State} {i : Station}

theorem State.adoptLevel_absent_none (h : u.record (38 + i.val) = none) : u.adoptLevel i none = u := by
  simp only [adoptLevel, show u.record (postureCode i) = none from h]

theorem State.adoptLevel_absent_some (h : u.record (38 + i.val) = none) (l : Level) :
    u.adoptLevel i (some l) = u.raise (postureRaise i l) := by
  simp only [adoptLevel, show u.record (postureCode i) = none from h]

theorem State.adoptLevel_present_none {r : Record} (h : u.record (38 + i.val) = some r) :
    u.adoptLevel i none = if r.life = .holds then u.conditionGone (38 + i.val) else u := by
  simp only [adoptLevel, show u.record (postureCode i) = some r from h]
  cases r.life <;> rfl

theorem State.adoptLevel_present_some {r : Record} (h : u.record (38 + i.val) = some r) (l : Level) :
    u.adoptLevel i (some l) =
      if r.level < l then u.replace (postureRaise i l)
      else if r.life = .holds then if l < r.level then u.conditionGone (38 + i.val) else u
      else if l = r.level then u.raise (postureRaise i l) else u := by
  simp only [adoptLevel, show u.record (postureCode i) = some r from h]
  cases r.life <;> rfl

end

theorem State.bare_of_record {u : State} {c : Nat} {r : Record} (h : u.record c = some r) :
    u.bare c = some { r with taken := false } := by rw [bare, h]; rfl

/-- The end of a condition changes a record that holds alone (R80). -/
theorem State.conditionGone_bare_of_over {u : State} {c : Nat} {r : Record} (h : u.record c = some r)
    (life : r.life ≠ .holds) : (u.conditionGone c).bare c = u.bare c := by
  rw [conditionGone_bare, if_pos rfl, bare_of_record h]
  cases hl : r.life <;> simp_all [conditionEnded]

/-- Where no level is adopted any more the record ends as a condition does (R53, R80). -/
theorem State.adoptLevel_none_bare (u : State) (i : Station) :
    (u.adoptLevel i none).bare (38 + i.val) = (u.conditionGone (38 + i.val)).bare (38 + i.val) := by
  cases hr : u.record (38 + i.val) with
  | none => rw [adoptLevel_absent_none hr, conditionGone_bare, if_pos rfl, bare_eq_none.2 hr]; rfl
  | some r =>
    rw [adoptLevel_present_none hr]
    split
    next => rfl
    next life => exact (conditionGone_bare_of_over hr life).symm

/-- A record of PEER-POSTURE stays in the table as the level adopted changes. -/
theorem State.adoptLevel_keeps {u : State} {i : Station} (table : TableLaw u.engine.records) {r : Record}
    (h : u.record (38 + i.val) = some r) (l : Level) : ((u.adoptLevel i (some l)).record (38 + i.val)).isSome = true := by
  have raised : ((u.raise (postureRaise i l)).record (38 + i.val)).isSome = true := by
    have old : u.bare (postureRaise i l).code = some { r with taken := false } := bare_of_record h
    have new := u.raise_bare (postureRaise i l) (postureRaise_synthetic i l).2.2.2
    rw [if_pos rfl, old] at new
    exact isSome_of_bare new
  have ended : ((u.conditionGone (38 + i.val)).record (38 + i.val)).isSome = true := by
    have new := u.conditionGone_bare (38 + i.val) (38 + i.val)
    rw [if_pos rfl, bare_of_record h] at new
    exact isSome_of_bare new
  have stays : (u.record (38 + i.val)).isSome = true := by rw [h]; rfl
  rw [adoptLevel_present_some h]
  repeat' split
  · refine isSome_of_bare ((replace_bare (a := postureRaise i l) table stays _).trans (if_pos rfl))
  · exact ended
  · exact stays
  · exact raised
  · exact stays

/-! ### A beacon moves the records of its entry -/

section
variable {s u x t : State} {i : Station} {e e' : PeerEntry}

/-- The table of R53 for a record that is present. -/
theorem State.adoptLevel_follows {r : Record} {l : Level} (pre : u.bare (38 + i.val) = s.bare (38 + i.val))
    (table : TableLaw u.engine.records) (found : s.record (38 + i.val) = some r)
    (post : t.bare (38 + i.val) = (u.adoptLevel i (some l)).bare (38 + i.val))
    (fills : Fills (u.adoptLevel i (some l)) t) (count : t.engine.beaconCount = u.engine.beaconCount) :
    if r.level < l then untaken (t.record (38 + i.val)) = some (createdBy (postureRaise i l) t)
    else if l = r.level ∧ r.life ≠ .holds then RecordRaised 1 (postureRaise i l) s t
    else if l < r.level then RecordEnds (38 + i.val) s t
    else RecordStays (38 + i.val) s t := by
  obtain ⟨x, hr, level, lives⟩ := State.record_of_same pre found
  have present : (u.record (postureRaise i l).code).isSome = true := by
    rw [show u.record (postureRaise i l).code = some x from hr]; rfl
  have synthetic := postureRaise_synthetic i l
  rw [adoptLevel_present_some hr, level, lives] at post fills
  by_cases higher : r.level < l
  · rw [if_pos higher] at post ⊢
    refine post.trans ((replace_bare (a := postureRaise i l) table present _).trans ?_)
    rw [if_pos (show 38 + i.val = (postureRaise i l).code from rfl), ← count, synthetic.record]
  rw [if_neg higher] at post fills ⊢
  by_cases life : r.life = .holds
  · rw [if_pos life] at post
    rw [if_neg fun h => h.2 life]
    split at post
    next lower => rw [if_pos lower]; exact RecordEnds.conditionGone pre post
    next lower => rw [if_neg lower]; exact post.trans pre
  · rw [if_neg life] at post fills
    split at post
    next same =>
      rw [if_pos same] at fills
      rw [if_pos ⟨same, life⟩]; exact RecordRaised.raise synthetic pre post fills count
    next same =>
      have lower : l < r.level := lt_of_le_of_ne (not_lt.1 higher) same
      rw [if_neg fun h => same h.1, if_pos lower]
      exact RecordEnds.conditionGone pre (post.trans (conditionGone_bare_of_over hr (lives ▸ life)).symm)

/-- The presentation of an adopted level leaves a record present as it is. -/
theorem State.presentPosture_of_present {l : Level} (hl : (x.peer i).adopted = some l)
    (h : (x.record (38 + i.val)).isSome = true) :
    (x.presentPosture i).bare (38 + i.val) = x.bare (38 + i.val) := by
  rw [presentPosture, hl]
  exact RecordStays.present (postureRaise_synthetic i l) h

/-- PEER-POSTURE after the table of R53, evaluated at `u`, and the presentation of what holds, at `x`. -/
theorem PostureFollows.heard (pre : u.bare (38 + i.val) = s.bare (38 + i.val)) (table : TableLaw u.engine.records)
    (mid : x.bare (38 + i.val) = (u.evalPosture i e e').bare (38 + i.val)) (filled : Fills (u.evalPosture i e e') x)
    (counted : x.engine.beaconCount = u.engine.beaconCount) (entry : x.peer i = e')
    (post : t.bare (38 + i.val) = (x.presentPosture i).bare (38 + i.val)) (fills : Fills (x.presentPosture i) t)
    (count : t.engine.beaconCount = x.engine.beaconCount) : PostureFollows i (adoptedOf e) (adoptedOf e') s t := by
  rw [← adopted_eq, ← adopted_eq]
  cases hl : e'.adopted with
  | none =>
    have same : t.bare (38 + i.val) = x.bare (38 + i.val) := by rw [post, State.presentPosture, entry, hl]
    show if e.adopted = none then RecordStays (38 + i.val) s t else RecordEnds (38 + i.val) s t
    rw [State.evalPosture, hl] at mid
    split
    next old => rw [if_pos old] at mid; exact (same.trans mid).trans pre
    next old =>
      rw [if_neg old] at mid
      exact RecordEnds.conditionGone pre ((same.trans mid).trans (u.adoptLevel_none_bare i))
  | some l =>
    have adopted : (x.peer i).adopted = some l := by rw [entry, hl]
    have presents : x.presentPosture i = x.present (postureRaise i l) := by rw [State.presentPosture, adopted]
    have kept : (x.record (38 + i.val)).isSome = true → t.bare (38 + i.val) = x.bare (38 + i.val) := fun h =>
      post.trans (State.presentPosture_of_present adopted h)
    rw [State.evalPosture, hl] at mid filled
    show match s.record (38 + i.val) with
      | none => RecordCreated (postureRaise i l) t
      | some r =>
        if e.adopted = some l then RecordStays (38 + i.val) s t
        else if r.level < l then untaken (t.record (38 + i.val)) = some (createdBy (postureRaise i l) t)
        else if l = r.level ∧ r.life ≠ .holds then RecordRaised 1 (postureRaise i l) s t
        else if l < r.level then RecordEnds (38 + i.val) s t
        else RecordStays (38 + i.val) s t
    split
    next absent =>
      have absent : u.record (38 + i.val) = none := State.bare_eq_none.1 (pre.trans (State.bare_eq_none.2 absent))
      by_cases old : e.adopted = some l
      · rw [if_pos old, State.bare_eq_none.2 absent] at mid
        rw [presents] at post fills
        exact RecordCreated.present (postureRaise_synthetic i l) (State.bare_eq_none.1 mid) post fills count
      · rw [if_neg old, State.adoptLevel_absent_some absent] at mid filled
        rw [presents] at post fills
        refine RecordCreated.presented (postureRaise_synthetic i l) (x := x) ?_ post fills count
        exact (RecordCreated.raise (postureRaise_synthetic i l) absent mid filled counted).imp id fun h => ⟨h.1, h.2.1⟩
    next r found =>
      obtain ⟨v, hr, -, -⟩ := State.record_of_same pre found
      by_cases old : e.adopted = some l
      · rw [if_pos old] at mid ⊢
        have present : (x.record (38 + i.val)).isSome = true := isSome_of_bare (mid.trans (State.bare_of_record hr))
        exact ((kept present).trans mid).trans pre
      · rw [if_neg old] at mid filled ⊢
        obtain ⟨y, hy⟩ := Option.isSome_iff_exists.1 (State.adoptLevel_keeps table hr l)
        have present : (x.record (38 + i.val)).isSome = true := isSome_of_bare (mid.trans (State.bare_of_record hy))
        refine State.adoptLevel_follows pre table found ((kept present).trans mid) ?_ (count.trans counted)
        exact filled.trans (Fills.trans (by rw [presents]; exact .present x _) fills)

end

end Sys2Proof.Machine
end

section
/-! The records of an entry after a beacon that is stored, and after one that mutes its sender. -/

namespace Sys2Proof.Machine

/-! ### A frame of a peer that is not down -/

section
variable {s : State} {i : Station} {e' : PeerEntry}

/-- Where the entry was not down and is not down PEER-DOWN is not touched (R50). -/
theorem State.downEvaluated_of_up (h : (s.peer i).state.down = false) (h' : e'.state.down = false) :
    s.downEvaluated i e' = s.entered i e' := by
  rw [downEvaluated, evalDown, h, h']; rfl

theorem State.hearPeer_bare_down (h : (s.peer i).state.down = false) (h' : e'.state.down = false) :
    (s.hearPeer i e').bare (32 + i.val) = s.bare (32 + i.val) := by
  rw [hearPeer, presentPosture_bare _ _ (by omega), updatePeer_bare_down, downEvaluated_of_up h h',
    bare_of_engine (s.entered_engine i e')]

theorem State.hearPeer_bare_mismatch :
    (s.hearPeer i e').bare (44 + i.val) = (s.mismatchEvaluated i e').bare (44 + i.val) := by
  rw [hearPeer, presentPosture_bare _ _ (by omega), updatePeer_bare_mismatch]

theorem State.hearPeer_peer : (s.hearPeer i e').peer i = e' := by
  rw [peer, hearPeer_peers, Six.get_set, if_pos rfl]

theorem Fills.presentPosture (s : State) (i : Station) : Fills s (s.presentPosture i) := by
  unfold State.presentPosture; split
  · exact .present s _
  · exact .refl s

theorem Fills.afterPosture (s : State) (i : Station) (e' : PeerEntry) :
    Fills (s.postureEvaluated i e') (s.updatePeer i e') :=
  (Fills.conditionNow _ _ _ (mismatchRaise i)).trans (.compareAtTrust _ _ _)

theorem Course.beaconCount {s t : State} (h : Course s t) : t.engine.beaconCount = s.engine.beaconCount := h.counts.1

theorem Course.downEvaluated (s : State) (i : Station) (e' : PeerEntry) : Course s (s.downEvaluated i e') :=
  (Course.entered s i e').trans (Works.evalDown _ i _ e').course

theorem Course.postureEvaluated (s : State) (i : Station) (e' : PeerEntry) : Course s (s.postureEvaluated i e') :=
  (Course.downEvaluated s i e').trans (Works.evalPosture _ i _ e').course

theorem Course.mismatchEvaluated (s : State) (i : Station) (e' : PeerEntry) : Course s (s.mismatchEvaluated i e') :=
  (Course.postureEvaluated s i e').trans (Works.evalMismatch _ i _ e').course

end

/-- The records of an entry whose peer is heard (R36, R37, R53, R54). -/
theorem entryRecords_of_heard {s0 s t : State} {i : Station} {e' : PeerEntry}
    (count : t.engine.beaconCount = s.engine.beaconCount) (table : TableLaw s.engine.records) (config : s.config = s0.config)
    (h38 : s.bare (38 + i.val) = s0.bare (38 + i.val)) (h44 : s.bare (44 + i.val) = s0.bare (44 + i.val))
    (post38 : t.bare (38 + i.val) = (s.hearPeer i e').bare (38 + i.val))
    (post44 : t.bare (44 + i.val) = (s.hearPeer i e').bare (44 + i.val)) (fills : Fills (s.hearPeer i e') t) :
    EntryRecords i (s.peer i) e' s0 t := by
  have entry : (s.updatePeer i e').peer i = e' := by
    rw [State.peer, State.updatePeer_peers, Six.get_set, if_pos rfl]
  refine ⟨PostureFollows.heard (u := s.downEvaluated i e') (x := s.updatePeer i e') ?_ ?_
    (s.updatePeer_bare_posture i e') (.afterPosture s i e') ?_ entry post38 fills ?_, ?_⟩
  · rw [State.downEvaluated_bare _ _ _ (by omega) (by omega), h38]
  · exact (Course.downEvaluated s i e').table table
  · rw [(Course.updatePeer s i e').beaconCount, (Course.downEvaluated s i e').beaconCount]
  · rw [count, (Course.updatePeer s i e').beaconCount]
  · have mismatch : ∀ e, PeerEntry.mismatch e (s.postureEvaluated i e').config.period = mismatchOf s0 e := fun e => by
      rw [(Course.postureEvaluated s i e').config, config, mismatch_eq]
    have eval : s.mismatchEvaluated i e' = (s.postureEvaluated i e').conditionNow (mismatchOf s0 (s.peer i))
        (mismatchOf s0 e') (configMismatchOf i) := by
      rw [State.mismatchEvaluated, State.evalMismatch, mismatch, mismatch]; rfl
    refine RecordFollows.conditionNow (u := s.postureEvaluated i e') (mismatchRaise_synthetic i) ?_ ?_ ?_ ?_
    · exact (State.postureEvaluated_bare s i e' (by show 44 + i.val ≠ _; omega) (by show 44 + i.val ≠ _; omega)
        (by show 44 + i.val ≠ _; omega)).trans h44
    · rw [← eval]; exact post44.trans State.hearPeer_bare_mismatch
    · rw [← eval]
      exact ((Fills.compareAtTrust _ _ _).trans (.presentPosture _ i)).trans fills
    · rw [count, (Course.postureEvaluated s i e').beaconCount]

/-! ### A beacon that mutes -/

/-- The muting of a peer ends a PEER-POSTURE that its beacon moved first (R53, R137; log 32). -/
theorem PosturePasses.of_follows {i : Station} {old new : Option Level} {s y t : State}
    (h : PostureFollows i old new s y)
    (post : t.bare (38 + i.val) = if new = none then y.bare (38 + i.val) else (y.conditionGone (38 + i.val)).bare (38 + i.val))
    (fills : Fills y t) (count : t.engine.beaconCount = y.engine.beaconCount) : PosturePasses i old new s t := by
  cases new with
  | none =>
    rw [if_pos rfl] at post
    show if old = none then RecordStays (38 + i.val) s t else RecordEnds (38 + i.val) s t
    have h : if old = none then RecordStays (38 + i.val) s y else RecordEnds (38 + i.val) s y := h
    split at h
    next none => rw [if_pos none]; exact post.trans h
    next some => rw [if_neg some]; exact post.trans h
  | some l =>
    have same : createdBy (peerPostureOf i l) y = createdBy (peerPostureOf i l) t := by rw [createdBy, createdBy, count]
    rw [if_neg (Option.some_ne_none l)] at post
    rw [PosturePasses]
    rw [PostureFollows] at h
    cases hr : s.record (38 + i.val) with
    | none =>
      rw [hr] at h
      exact RecordPasses.of_created h hr post fills count
    | some r =>
      rw [hr] at h
      dsimp only at h ⊢
      split at h
      next kept => rw [if_pos kept]; exact RecordEnds.of_stays h post
      next moved =>
      rw [if_neg moved]
      split at h
      next higher =>
        rw [if_pos higher]
        rw [State.conditionGone_bare, if_pos rfl, show y.bare (38 + i.val) = _ from h, same] at post
        exact post
      next lower =>
      rw [if_neg lower]
      split at h
      next again => rw [if_pos again]; exact RecordPasses.of_raised h post fills count
      next settled =>
      rw [if_neg settled]
      split at h
      next => exact RecordEnds.again h post
      next => exact RecordEnds.of_stays h post

section
variable {y : State} {i : Station} {e' : PeerEntry} (h : e'.state.trusted = false)
include h

/-- As a peer is trusted no more its PEER-POSTURE ends (R53). -/
theorem State.updatePeer_bare_posture_of_untrusted :
    (y.updatePeer i e').bare (38 + i.val)
      = if (y.peer i).adopted = none then y.bare (38 + i.val) else (y.conditionGone (38 + i.val)).bare (38 + i.val) := by
  have down : (y.downEvaluated i e').bare (38 + i.val) = y.bare (38 + i.val) :=
    y.downEvaluated_bare i e' (by omega) (by omega)
  rw [updatePeer_bare_posture, postureEvaluated, evalPosture, adopted_of_untrusted h]
  split
  · exact down
  · rw [adoptLevel_none_bare, conditionGone_bare, conditionGone_bare, if_pos rfl, if_pos rfl, down]

/-- As a peer is trusted no more its CONFIG-MISMATCH ends (R54). -/
theorem State.updatePeer_bare_mismatch_of_untrusted :
    (y.updatePeer i e').bare (44 + i.val)
      = if mismatchOf y (y.peer i) = true then (y.conditionGone (44 + i.val)).bare (44 + i.val)
        else y.bare (44 + i.val) := by
  have before : (y.postureEvaluated i e').bare (44 + i.val) = y.bare (44 + i.val) :=
    y.postureEvaluated_bare i e' (by omega) (by omega) (by omega)
  have none : e'.mismatch y.config.period = false := by rw [PeerEntry.mismatch, h]; rfl
  have held : (y.peer i).mismatch y.config.period = mismatchOf y (y.peer i) := mismatch_eq y _
  rw [updatePeer_bare_mismatch, mismatchEvaluated, evalMismatch, (Course.postureEvaluated y i e').config, none, held]
  cases mismatchOf y (y.peer i) with
  | false => exact before
  | true =>
    show ((y.postureEvaluated i e').conditionGone (44 + i.val)).bare (44 + i.val) = _
    rw [conditionGone_bare, if_pos rfl, before, if_pos rfl, conditionGone_bare, if_pos rfl]

end

/-- A period that a beacon left at odds, or not, and the end of CONFIG-MISMATCH as the same beacon mutes (R54, R137). -/
theorem mismatch_of_muted {s y t : State} {a : Raise} {held now : Bool} (h : RecordFollows held now a s y)
    (post : t.bare a.code = if now = true then (y.conditionGone a.code).bare a.code else y.bare a.code)
    (fills : Fills y t) (count : t.engine.beaconCount = y.engine.beaconCount) :
    if held = true then RecordEnds a.code s t
    else if now = true then RecordPasses a s t
    else RecordStays a.code s t := by
  cases held <;> cases now
  · exact post.trans h
  · exact RecordPasses.of_raised h post fills count
  · exact post.trans h
  · exact RecordEnds.of_stays h post

end Sys2Proof.Machine
end

section
/-! A role heard, and the counters of the line interface. -/

namespace Sys2Proof.Machine

/-! ### The line interface apart from its queues and slot -/

/-- A handling that goes on leaves the counters of the line interface and its stuck state (R28, R31). -/
theorem Course.lineCounters {s t : State} (h : Course s t) :
    t.line.lineErrors = s.line.lineErrors ∧ t.line.degraded = s.line.degraded
      ∧ t.line.txFailures = s.line.txFailures ∧ t.line.stuck = s.line.stuck := by
  have parked : s.abandonPark.line.lineErrors = s.line.lineErrors ∧ s.abandonPark.line.degraded = s.line.degraded
      ∧ s.abandonPark.line.txFailures = s.line.txFailures ∧ s.abandonPark.line.stuck = s.line.stuck := by
    by_cases hp : s.station = .parking
    · rw [State.abandonPark_of_parking hp]; exact ⟨rfl, rfl, rfl, rfl⟩
    · rw [State.abandonPark_of_not_parking hp]; exact ⟨rfl, rfl, rfl, rfl⟩
  obtain ⟨p, x, u, d, -, -, -, ⟨e, g, rfl, -⟩ | ⟨e, g, rfl, -⟩⟩ := h
  · exact ⟨rfl, rfl, rfl, rfl⟩
  · exact parked

/-! ### The role of a beacon -/

theorem Six.set_get {α : Type} (t : Six α) (i : Station) : t.set i (t.get i) = t := by
  fin_cases i <;> rfl

/-- The population record after a valid beacon (R9). -/
def State.heardPopulation (s : State) (i : Station) (r : Role) : Six Place :=
  s.start.population.set i (heardPlace (s.start.population.get i) r)

/-- Start control after a valid beacon in JOIN or RUN (R9, R10). -/
def State.heardStart (s : State) (i : Station) (r : Role) : StartControl :=
  { s.start with
    population := s.heardPopulation i r
    missingHeld :=
      if s.station = .run ∧ (s.start.population.get i).role ≠ some r then roleMissing (s.heardPopulation i r)
      else s.start.missingHeld
    conflictHeld :=
      if s.station = .run ∧ (s.start.population.get i).role ≠ some r then roleConflict (s.heardPopulation i r)
      else s.start.conflictHeld }

theorem RoleHeard.of_heardStart {s t : State} {i : Station} {r : Role} (h : t.start = s.heardStart i r) :
    RoleHeard i r s t := by
  have population : t.start.population = s.heardPopulation i r := by rw [h]; rfl
  rw [RoleHeard, population]; exact h

section
variable {s : State} {i : Station} {r : Role}

theorem State.hearRole_of_same (h : (s.start.population.get i).role = some r) : s.hearRole i r = s := by
  simp [hearRole, h]

theorem State.hearRole_of_new (h : (s.start.population.get i).role ≠ some r) :
    s.hearRole i r = (s.setPlace i (heardPlace (s.start.population.get i) r)).recheckPopulation := by
  cases hr : (s.start.population.get i).role with
  | none => simp only [hearRole, heardPlace, hr]
  | some held =>
    have ne : held ≠ r := fun same => h (hr.trans (congrArg some same))
    simp only [hearRole, heardPlace, hr, if_neg ne]; rfl

/-- A role that is heard again changes nothing (R9). -/
theorem State.heardStart_of_same (h : (s.start.population.get i).role = some r) : s.heardStart i r = s.start := by
  have place : heardPlace (s.start.population.get i) r = s.start.population.get i := by simp [heardPlace, h]
  have population : s.heardPopulation i r = s.start.population := by rw [heardPopulation, place, Six.set_get]
  rw [heardStart, population, if_neg fun c => c.2 h, if_neg fun c => c.2 h]

/-- In JOIN a role is noted alone (R10). -/
theorem State.hearRole_in_join (hst : s.station = .join) : s.hearRole i r = s.setStart (s.heardStart i r) := by
  by_cases h : (s.start.population.get i).role = some r
  · rw [hearRole_of_same h, heardStart_of_same h]; rfl
  · have still : ¬(s.station = .run ∧ (s.start.population.get i).role ≠ some r) := by
      rw [hst]; exact fun c => nomatch c.1
    have out : (s.setPlace i (heardPlace (s.start.population.get i) r)).station.riding = false := by
      show s.station.riding = false; rw [hst]; rfl
    rw [hearRole_of_new h, recheckPopulation, out, heardStart, if_neg still, if_neg still]; rfl

/-- In RUN the population check runs where the place changed (R10). -/
theorem State.hearRole_in_run (hst : s.station = .run) (h : (s.start.population.get i).role ≠ some r) :
    s.hearRole i r = (s.setPlace i (heardPlace (s.start.population.get i) r)).populationCheck := by
  have riding : (s.setPlace i (heardPlace (s.start.population.get i) r)).station.riding = true := by
    show s.station.riding = true; rw [hst]; rfl
  rw [hearRole_of_new h, recheckPopulation, riding]; rfl

theorem State.markPopulation_of_heard (hst : s.station = .run) (h : (s.start.population.get i).role ≠ some r) :
    (s.setPlace i (heardPlace (s.start.population.get i) r)).markPopulation = s.setStart (s.heardStart i r) := by
  rw [heardStart, if_pos ⟨hst, h⟩, if_pos ⟨hst, h⟩]; rfl

theorem Works.hearRole (hst : s.station = .join ∨ s.station = .run) :
    Works (s.setStart (s.heardStart i r)) (s.hearRole i r) := by
  rcases hst with hst | hst
  · rw [State.hearRole_in_join hst]; exact .refl _
  · by_cases h : (s.start.population.get i).role = some r
    · rw [State.hearRole_of_same h, State.heardStart_of_same h]; exact .refl s
    · rw [State.hearRole_in_run hst h, ← State.markPopulation_of_heard hst h]; exact .populationCheck _

theorem State.hearRole_bare (hst : s.station = .join ∨ s.station = .run) {c : Nat} (h54 : c ≠ 54) (h53 : c ≠ 53)
    (h4 : c ≠ 4) : (s.hearRole i r).bare c = s.bare c := by
  rcases hst with hst | hst
  · rw [hearRole_in_join hst]; rfl
  · by_cases h : (s.start.population.get i).role = some r
    · rw [hearRole_of_same h]
    · rw [hearRole_in_run hst h, populationCheck_bare _ h54 h53 h4]; rfl

/-- ROLE-MISSING ends as the role that was missing is heard (R10, R80). -/
theorem State.hearRole_bare_missing (held : s.start.missingHeld = true)
    (now : (s.heardStart i r).missingHeld = false) : (s.hearRole i r).bare 54 = (s.conditionGone 54).bare 54 := by
  have changed : s.station = .run ∧ (s.start.population.get i).role ≠ some r := by
    by_contra h
    rw [heardStart, if_neg h] at now
    exact absurd (now.symm.trans held) (by decide)
  obtain ⟨run, h⟩ := changed
  have missing : roleMissing (s.heardPopulation i r) = false := by
    rw [heardStart, if_pos ⟨run, h⟩] at now; exact now
  let u := s.setPlace i (heardPlace (s.start.population.get i) r)
  have found : roleMissing u.start.population = false := missing
  have was : u.start.missingHeld = true := held
  rw [hearRole_in_run run h, show s.setPlace i _ = u from rfl, populationCheck_eq,
    checkCondition_bare _ _ _ (by decide) (by decide) (by decide), found, was]
  show (u.markPopulation.conditionGone 54).bare 54 = _
  rw [conditionGone_bare, conditionGone_bare]; rfl

end

end Sys2Proof.Machine
end

section
/-! A beacon that is stored: BEACON_RECEIVED at an entry that is ABSENT, LIVE or SUSPECT. -/

namespace Sys2Proof.Machine

/-! ### The state that takes the beacon -/

/-- The state after the frame and the role of a valid beacon, where the peer view unit takes it (R9, R28). -/
def State.roleTaken (s : State) (i : Station) (r : Role) : State := s.goodFrame.hearRole i r

/-- Start control and the line counters as the frame leaves them, before the engine works. -/
def State.frameNoted (s : State) (i : Station) (r : Role) : State :=
  (s.setLine s.fineLine).setStart (s.heardStart i r)

section
variable {s : State} {i : Station} {r : Role} (hst : s.station = .join ∨ s.station = .run)

theorem State.goodFrame_start (s : State) : s.goodFrame.start = s.start := by
  rcases s.goodFrame_eq with h | ⟨-, h⟩ <;> rw [h] <;> rfl

theorem State.goodFrame_bare (s : State) {c : Nat} (h50 : c ≠ 50) : s.goodFrame.bare c = s.bare c := by
  rcases s.goodFrame_eq with h | ⟨-, h⟩
  · rw [h]; rfl
  · rw [h, conditionGone_bare, if_neg h50]; rfl

theorem State.goodFrame_heardStart (s : State) (i : Station) (r : Role) :
    s.goodFrame.heardStart i r = s.heardStart i r := by
  unfold heardStart heardPopulation State.station
  rw [s.goodFrame_start]

theorem Works.goodFrame_setStart (s : State) (a : StartControl) :
    Works ((s.setLine s.fineLine).setStart a) (s.goodFrame.setStart a) := by
  rcases s.goodFrame_eq with h | ⟨-, h⟩
  · rw [h]; exact .refl _
  · rw [h]; exact .conditionGone ((s.setLine s.fineLine).setStart a) 50

section
include hst

theorem State.goodFrame_joined_or_run : s.goodFrame.station = .join ∨ s.goodFrame.station = .run := by
  simpa only [State.station, s.goodFrame_start] using hst

theorem Works.roleTaken : Works (s.frameNoted i r) (s.roleTaken i r) := by
  have heard := Works.hearRole (i := i) (r := r) (State.goodFrame_joined_or_run hst)
  rw [s.goodFrame_heardStart] at heard
  exact (Works.goodFrame_setStart s _).trans heard

theorem State.roleTaken_peers : (s.roleTaken i r).peers = s.peers := (Works.roleTaken hst).peers

theorem State.roleTaken_selector : (s.roleTaken i r).selector = s.selector := (Works.roleTaken hst).selector

theorem State.roleTaken_queue : (s.roleTaken i r).isolation.queue = s.isolation.queue
    ∧ (s.roleTaken i r).isolation.probation = s.isolation.probation
    ∧ (s.roleTaken i r).isolation.owed = s.isolation.owed := by
  obtain ⟨queue, probation, -, owed⟩ := (Works.roleTaken (i := i) (r := r) hst).isolation
  exact ⟨queue, probation, owed⟩

theorem State.roleTaken_bare {c : Nat} (h50 : c ≠ 50) (h54 : c ≠ 54) (h53 : c ≠ 53) (h4 : c ≠ 4) :
    (s.roleTaken i r).bare c = s.bare c := by
  rw [roleTaken, hearRole_bare (goodFrame_joined_or_run hst) h54 h53 h4, goodFrame_bare s h50]

theorem State.frameNoted_unparked : (s.frameNoted i r).station ≠ .parking := by
  show s.station ≠ .parking
  rcases hst with h | h <;> rw [h] <;> decide

end

theorem State.roleTaken_bare_missing (held : s.start.missingHeld = true)
    (now : (s.heardStart i r).missingHeld = false) : (s.roleTaken i r).bare 54 = (s.conditionGone 54).bare 54 := by
  rw [← s.goodFrame_heardStart] at now
  rw [roleTaken, hearRole_bare_missing (by rw [s.goodFrame_start]; exact held) now, conditionGone_bare, conditionGone_bare,
    goodFrame_bare s (by decide)]

end

/-! ### The end of the handling -/

/-- What BEACON_RECEIVED leaves where no peer begins its probation: the beacon's role is heard, the frame is counted,
the entries are those of `m`, and the served values and the envelope follow (R9, R28, R36, R59). -/
structure BeaconConcluded (i : Station) (r : Role) (s m t : State) : Prop where
  changes : OnlyChanges [.start, .line, .peers, .selector, .isolation, .engine, .envelope, .pins] s t
  lineErrors : t.line.lineErrors = s.line.lineErrors - 1
  own : t.selector.own = s.selector.own
  served : t.selector.served = t.resolved
  band : BandFollows s t
  role : RoleHeard i r s t
  peers : t.peers = m.peers
  handed : HandedOver s t
  start : t.start = s.heardStart i r
  bare : ∀ c, c ≠ 57 → c ≠ 59 → c ≠ 4 → t.bare c = m.bare c
  fills : Fills m t
  beaconCount : t.engine.beaconCount = m.engine.beaconCount
  owed : t.isolation.owed = m.isolation.owed

section
variable {s m : State} {i : Station} {r : Role} (hst : s.station = .join ∨ s.station = .run)
  (course : Course (s.roleTaken i r) m)
include hst course

theorem Course.ofFrame : Course (s.frameNoted i r) m := (Works.roleTaken hst).course.trans course

theorem finish_of_beacon (still : Settled s) (hq : m.isolation.queue = s.isolation.queue)
    (hp : m.isolation.probation = s.isolation.probation) : s.finish m = s.handOver m.refreshServed := by
  have whole := Course.ofFrame hst course
  have unparked : s.station ≠ .parking := State.frameNoted_unparked (i := i) (r := r) hst
  have onLine : s.station.onLine = true := by rcases hst with h | h <;> rw [h] <;> rfl
  exact State.finish_of_course whole rfl onLine unparked (by rw [hq, hp]; exact still.2)

theorem BeaconConcluded.of_course (hsel : m.selector = s.selector) :
    BeaconConcluded i r s m (s.handOver m.refreshServed) := by
  have whole := Course.ofFrame hst course
  have unparked : s.station ≠ .parking := State.frameNoted_unparked (i := i) (r := r) hst
  have onLine : s.station.onLine = true := by rcases hst with h | h <;> rw [h] <;> rfl
  have refreshed : Course (s.frameNoted i r) m.refreshServed := whole.trans (.refreshServed m)
  have res : resolving m.station := resolving_of_onLine (whole.onLine.trans onLine)
  have start : (s.handOver m.refreshServed).start = s.heardStart i r := by
    rw [State.handOver_start, refreshed.start_eq unparked]; rfl
  obtain ⟨peers, own, served, band⟩ := served_of_course whole rfl onLine unparked hsel rfl
  have noted : OnlyChanges [.start, .line] s (s.frameNoted i r) :=
    ((OnlyChanges.setLine s _).mono (by decide)).trans ((OnlyChanges.setStart _ _).mono (by decide))
  exact {
    changes := ((noted.mono (by decide)).trans ((refreshed.onlyChanges unparked).mono (by decide))).trans
      ((OnlyChanges.handOver s _).mono (by decide))
    lineErrors := by rw [State.handOver_line, refreshed.lineCounters.1]; rfl
    own := own
    served := served
    band := band
    role := RoleHeard.of_heardStart start
    peers := peers
    handed := refreshed.handedOver unparked rfl rfl rfl rfl rfl rfl
    start := start
    bare := fun c h57 h59 h4 => by rw [State.handOver_bare, State.refreshServed_bare res h57 h59 h4]
    fills := (Fills.refreshServed res).trans (.handOver s _)
    beaconCount := by rw [State.handOver_beaconCount, (Course.refreshServed m).beaconCount]
    owed := by
      obtain ⟨-, -, -, owed⟩ := State.refreshServed_isolation (s := m) res
      exact (State.handOver_owed ..).trans owed }

end

end Sys2Proof.Machine
end

section
/-! The obligation on a beacon that is stored and scored. -/

namespace Sys2Proof.Machine

/-! ### SPEED-UNKNOWN and CHARGE-INTERLOCK at the end of a handling in RUN -/

theorem resolving_of_riding {x : StationState} (h : x.riding = true) : resolving x :=
  ⟨fun hold => (by rw [hold] at h; cases h), fun parked => (by rw [parked] at h; cases h)⟩

theorem conditionsFit_of_refresh {s m : State} (riding : m.station.riding = true) (sel : m.selector = s.selector)
    (fit : ConditionsFit s.selector) : ConditionsFit m.refreshServed.selector := by
  rw [State.refreshServed_selector (resolving_of_riding riding)]
  exact conditionsFit_refreshedSelector riding (sel ▸ fit)

section
variable {s m t : State} (riding : m.station.riding = true) (sel : m.selector = s.selector)
  (h57 : m.bare 57 = s.bare 57) (h59 : m.bare 59 = s.bare 59) (tsel : t.selector = m.refreshServed.selector)
  (bare : ∀ c, t.bare c = m.refreshServed.bare c) (fills : Fills m.refreshServed t)
  (count : t.engine.beaconCount = m.engine.beaconCount)
include riding sel h57 h59 tsel bare fills count

/-- The records of the two conditions follow a resolution (R67, R69). -/
theorem selectorRecords_of_resolution (h : m.resolved ≠ m.selector.served) : SelectorRecords s t := by
  have same : m.refreshServed = m.chargeNoted.conditionNow m.selector.chargeHolds
      (decide (servedValue m.resolved.charger = 1)) chargeInterlockRaise := by
    rw [State.refreshServed, if_neg h, State.resolveQuantities_riding_eq riding]
  have res := resolving_of_riding riding
  have refreshed : t.selector = m.resolvedSelector := by
    rw [tsel, State.refreshServed_selector res, State.refreshedSelector, if_neg h]
  have speed : t.selector.speedUnknown = m.resolved.speed.isNone := by
    rw [refreshed, State.resolvedSelector, riding]; rfl
  have charge : t.selector.chargeHolds = decide (servedValue m.resolved.charger = 1) := by
    rw [refreshed, State.resolvedSelector, riding]; rfl
  let u := m.speedNoted.conditionNow m.selector.speedUnknown m.resolved.speed.isNone speedUnknownRaise
  have noted : ∀ c, m.chargeNoted.bare c = u.bare c := fun _ => rfl
  have before : ∀ c, m.speedNoted.bare c = m.bare c := State.bare_of_engine m.speedNoted_engine
  have counted : u.engine.beaconCount = m.engine.beaconCount :=
    (Works.conditionNow m.speedNoted ..).course.beaconCount.trans (by rw [m.speedNoted_engine])
  rw [same] at fills
  have bare : ∀ c, t.bare c = (m.chargeNoted.conditionNow m.selector.chargeHolds
      (decide (servedValue m.resolved.charger = 1)) chargeInterlockRaise).bare c := fun c => by rw [bare, same]
  rw [SelectorRecords, speed, charge, ← sel]
  refine ⟨RecordFollows.conditionNow (u := m.speedNoted) speedUnknown_synthetic ?_ ?_ ?_ ?_,
    RecordFollows.conditionNow (u := m.chargeNoted) chargeInterlock_synthetic ?_ (bare 59) fills ?_⟩
  · exact (before 57).trans h57
  · exact (bare 57).trans ((State.conditionNow_bare m.chargeNoted _ _ (by decide) (by decide)).trans (noted 57))
  · exact ((Fills.of_engine (s := u) rfl).trans (.conditionNow m.chargeNoted ..)).trans fills
  · rw [count, m.speedNoted_engine]
  · exact ((noted 59).trans (State.conditionNow_bare m.speedNoted _ _ (by decide) (by decide))).trans ((before 59).trans h59)
  · exact count.trans counted.symm

theorem selectorRecords_of_refresh : SelectorRecords s t := by
  by_cases h : m.resolved = m.selector.served
  · have same : m.refreshServed = m := if_pos h
    rw [same] at tsel bare
    rw [SelectorRecords, tsel, sel]
    exact ⟨(if_pos rfl).mpr ((bare 57).trans h57), (if_pos rfl).mpr ((bare 59).trans h59)⟩
  · exact selectorRecords_of_resolution riding sel h57 h59 tsel bare fills count h

end

/-! ### The score a beacon brings -/

theorem gap_eq (last received : Fin 16) : (received - last).val = (received.val + 16 - last.val) % 16 := by
  revert last received; decide

/-- The score after a sorted beacon (R35, R46). -/
theorem scoreAfter_eq (e : PeerEntry) (b : Beacon) : scoreAfter e.score (seqClass e.lastSeq b.sequence) = scoredBy e b := by
  have gap : (b.sequence - e.lastSeq).val = gapOf e b := gap_eq ..
  rw [scoreAfter, scoredBy, seqClass, gap]
  by_cases h0 : gapOf e b = 0
  · simp [h0, gapCharge, addSat]
  by_cases h1 : gapOf e b = 1
  · simp [h1, gapCharge, addSat]
  · have more : ¬ gapOf e b ≤ 1 := by omega
    simp [h0, h1, more, gapCharge, addSat]

/-- The entry that a beacon of a trusted peer leaves, apart from a muting (R36, R46, R47). -/
def PeerEntry.heardFrom (e : PeerEntry) (b : Beacon) : PeerEntry :=
  byThresholds { storedFrom e b with score := scoredBy e b }

theorem storeScored_eq (e : PeerEntry) (b : Beacon) : (e.storeScored b).thresholds = e.heardFrom b := by
  rw [thresholds_eq, PeerEntry.storeScored, scoreAfter_eq]; rfl

theorem heardFrom_trusted {e : PeerEntry} (h : e.state.trusted = true) (b : Beacon) :
    (e.heardFrom b).state.trusted = true := byThresholds_trusted (e := { storedFrom e b with score := scoredBy e b }) h

/-- The entry of a peer heard for the first time (R36). -/
def PeerEntry.firstHeard (e : PeerEntry) (b : Beacon) : PeerEntry :=
  { storedFrom e b with state := if b.flags.parking then .parked else .live, score := 0 }

theorem firstHeard_up (e : PeerEntry) (b : Beacon) : (e.firstHeard b).state.down = false := by
  unfold PeerEntry.firstHeard; cases b.flags.parking <;> rfl

/-! ### What the peer view unit makes of the beacon -/

section
variable {b : Beacon} {s : State} (hst : s.station = .join ∨ s.station = .run)

/-- The state that has taken the role of the beacon. -/
abbrev State.told (s : State) (b : Beacon) : State := s.roleTaken b.sender b.published.role

include hst

theorem State.told_peer (i : Station) : (s.told b).peer i = s.peer i := by rw [peer, roleTaken_peers hst]; rfl

theorem State.takeBeacon_of_absent (h : (s.peer b.sender).state = .absent) :
    (s.told b).takeBeacon b = (s.told b).hearPeer b.sender ((s.peer b.sender).firstHeard b) := by
  unfold takeBeacon
  rw [told_peer hst, h]
  show (s.told b).hearPeer b.sender _ = _
  rw [told_peer hst]; rfl

theorem State.takeBeacon_of_trusted (h : (s.peer b.sender).state.trusted = true) (hp : b.flags.parking = false)
    (hj : b.flags.joining = false ∨ (s.peer b.sender).flags.joining = true) :
    (s.told b).takeBeacon b
      = ((s.told b).hearPeer b.sender ((s.peer b.sender).heardFrom b)).reportScore b.sender := by
  have still : (b.flags.joining && !(s.peer b.sender).flags.joining) = false := by
    rcases hj with h | h <;> rw [h]
    · rfl
    · cases b.flags.joining <;> rfl
  have taken : (s.told b).takeBeacon b = (s.told b).beaconAtTrusted b := by
    unfold takeBeacon
    rw [told_peer hst]
    rcases trusted_cases h with h | h <;> rw [h]
  rw [taken, beaconAtTrusted, told_peer hst, still, hp, hearScored, storeScored_eq]; rfl

/-- In RUN a score of 192 or more mutes (R47, R136). -/
theorem State.reportScore_of_heard (h : (s.peer b.sender).state.trusted = true) (hp : b.flags.parking = false) :
    let y := (s.told b).hearPeer b.sender ((s.peer b.sender).heardFrom b)
    y.reportScore b.sender = if mutesBy s (s.peer b.sender) b = true then y.mute b.sender .score else y := by
  intro y
  have entry : y.peer b.sender = (s.peer b.sender).heardFrom b := hearPeer_peer
  have station : y.station = s.station :=
    ((Course.ofFrame hst (Course.hearPeer (s.told b) b.sender _)).station_eq
      (frameNoted_unparked (i := b.sender) (r := b.published.role) hst))
  have decides : (y.station = .run ∧ (y.peer b.sender).state.trusted ∧ Config.muteAt ≤ (y.peer b.sender).score)
      ↔ mutesBy s (s.peer b.sender) b = true := by
    rw [entry, station, mutesBy, decide_eq_true_iff]
    exact ⟨fun ⟨run, _, score⟩ => ⟨run, hp, score⟩, fun ⟨run, _, score⟩ => ⟨run, heardFrom_trusted h b, score⟩⟩
  rw [reportScore]
  exact if_congr decides rfl rfl

end

end Sys2Proof.Machine
end

section
/-! The obligation on a beacon that is stored and scored. -/

namespace Sys2Proof.Machine

/-! ### The handling as a whole -/

section
variable {b : Beacon} {s m : State} (hst : s.station = .join ∨ s.station = .run)
  (course : Course (s.told b) m) (sel : m.selector = s.selector)

theorem execBeacon {b : Beacon} {s : State} (hst : s.station = .join ∨ s.station = .run) (wf : b.wf = true)
    (other : b.sender ≠ s.own) : exec (.beaconReceived b) s = .next (s.finish ((s.told b).takeBeacon b)) := by
  have onLine : s.station.onLine = true := by rcases hst with h | h <;> rw [h] <;> rfl
  have heard : s.hear true b.sender (fun t => (t.hearRole b.sender b.published.role).takeBeacon b)
      = s.finish ((s.told b).takeBeacon b) := State.hear_of_good onLine other _
  exact congrArg Host.Outcome.next ((congrArg (s.hear · b.sender _) wf).trans heard)

/-- ROLE-MISSING latches as the role that was missing is heard (R10, R80). -/
theorem missing_latches {t : State} {i : Station} {r : Role} (start : t.start = s.heardStart i r)
    (same : t.bare 54 = (s.roleTaken i r).bare 54) :
    ∀ x ∈ s.record 54, x.life = .holds → 5 ≤ x.level → s.start.missingHeld = true →
      t.start.missingHeld = false → (t.record 54).map Record.life = some .latched := by
  intro x hx life level held now
  rw [start] at now
  have ended := same.trans (State.roleTaken_bare_missing held now)
  rw [State.conditionGone_bare, if_pos rfl, State.bare_of_record hx] at ended
  obtain ⟨_, found⟩ := bare_some ended
  rw [found]
  simp [conditionEnded, life, lifeAfterGone, level]

include hst course sel

/-- The conditions of the selector follow in RUN (R67, R69). -/
theorem BeaconConcluded.selectorRecords (h57 : m.bare 57 = s.bare 57) (h59 : m.bare 59 = s.bare 59)
    (run : s.station = .run) (law : ConditionsLaw s) :
    ConditionsLaw (s.handOver m.refreshServed) ∧ SelectorRecords s (s.handOver m.refreshServed) := by
  have whole := Course.ofFrame hst course
  have riding : m.station.riding = true := whole.riding.trans (by show s.station.riding = true; rw [run]; rfl)
  have fit : ConditionsFit s.selector := law (by rw [run]; rfl)
  have fit' : ConditionsFit (s.handOver m.refreshServed).selector := by
    rw [State.handOver_selector]; exact conditionsFit_of_refresh riding sel fit
  refine ⟨fun _ => fit', selectorRecords_of_refresh riding sel h57 h59 ?_ ?_ (.handOver s _) ?_⟩
  · rw [State.handOver_selector]
  · intro c; rw [State.handOver_bare]
  · rw [State.handOver_beaconCount, (Course.refreshServed m).beaconCount]

end

/-! ### A beacon that is stored -/

section
variable {b : Beacon} {s : State} {e' : PeerEntry} (hst : s.station = .join ∨ s.station = .run)
  (up : (s.peer b.sender).state.down = false) (up' : e'.state.down = false)

theorem State.hearPeer_selector (s : State) (i : Station) (e' : PeerEntry) : (s.hearPeer i e').selector = s.selector := by
  rw [(Works.hearPeer s i e').selector, entered_selector]

theorem State.hearPeer_bare (s : State) (i : Station) (e' : PeerEntry) {c : Nat} (hc : 50 ≤ c) :
    (s.hearPeer i e').bare c = s.bare c := by
  rw [hearPeer, presentPosture_bare _ _ (by omega),
    updatePeer_bare _ _ _ (by omega) (by omega) (by omega) (by omega) (by omega)]

theorem State.hearPeer_queue (s : State) (i : Station) (e' : PeerEntry) :
    (s.hearPeer i e').isolation.queue = s.isolation.queue
      ∧ (s.hearPeer i e').isolation.probation = s.isolation.probation := by
  obtain ⟨queue, probation, -, -⟩ := (Works.hearPeer s i e').isolation
  obtain ⟨queue', probation'⟩ := s.entered_queue i e'
  exact ⟨queue.trans queue', probation.trans probation'⟩

include hst up up'

/-- The records of the entry follow the beacon, and PEER-DOWN stays (R50, R53, R54). -/
theorem stored_records {t : State} (bare : ∀ c, c ≠ 57 → c ≠ 59 → c ≠ 4 → t.bare c = ((s.told b).hearPeer b.sender e').bare c)
    (fills : Fills ((s.told b).hearPeer b.sender e') t)
    (count : t.engine.beaconCount = ((s.told b).hearPeer b.sender e').engine.beaconCount) :
    (TableLaw s.engine.records → EntryRecords b.sender (s.peer b.sender) e' s t)
      ∧ RecordStays (32 + b.sender.val) s t := by
  have hi := b.sender.isLt
  have told := Works.roleTaken (i := b.sender) (r := b.published.role) hst
  refine ⟨fun table => ?_, ?_⟩
  · have records := entryRecords_of_heard (s0 := s) (s := s.told b) (t := t) (i := b.sender) (e' := e')
      (count.trans (Course.hearPeer ..).beaconCount) (told.table table) told.course.config
      (State.roleTaken_bare hst (by omega) (by omega) (by omega) (by omega))
      (State.roleTaken_bare hst (by omega) (by omega) (by omega) (by omega))
      (bare _ (by omega) (by omega) (by omega)) (bare _ (by omega) (by omega) (by omega)) fills
    rwa [State.told_peer hst] at records
  · refine (bare _ (by omega) (by omega) (by omega)).trans ?_
    rw [State.hearPeer_bare_down (by rw [State.told_peer hst]; exact up) up']
    exact State.roleTaken_bare hst (by omega) (by omega) (by omega) (by omega)

end

end Sys2Proof.Machine
end

section
/-! The obligation on a beacon that is stored and scored: the muting and the assembly. -/

namespace Sys2Proof.Machine

theorem Fills.afterDown {s : State} (i : Station) {e' : PeerEntry} (h : e'.state.trusted = false) :
    Fills (s.downEvaluated i e') (s.updatePeer i e') :=
  (Fills.evalPosture i (.inr (adopted_of_untrusted h))).trans (.afterPosture s i e')

section
variable {b : Beacon} {s : State} (hst : s.station = .join ∨ s.station = .run)
  (trusted : (s.peer b.sender).state.trusted = true)

/-- The state in which the score of the beacon is reported (R47). -/
abbrev State.scored (s : State) (b : Beacon) : State :=
  (s.told b).hearPeer b.sender ((s.peer b.sender).heardFrom b)

/-- The state after the muting by the beacon (R137). -/
abbrev State.mutedBy (s : State) (b : Beacon) : State := (s.scored b).mute b.sender .score

/-- The entry that the muting leaves (R137). -/
abbrev State.mutedEntry (s : State) (b : Beacon) : PeerEntry :=
  mutedFrom (storedFrom (s.peer b.sender) b) .score s.config.muteHold

include hst

theorem Course.scored : Course (s.frameNoted b.sender b.published.role) (s.scored b) :=
  Course.ofFrame hst (.hearPeer ..)

theorem State.mutedBy_eq : s.mutedBy b = (s.scored b).updatePeer b.sender (s.mutedEntry b) := by
  have config : (s.scored b).config = s.config := (Course.scored hst).config
  rw [mutedBy, mute, hearPeer_peer, config]; rfl

theorem State.mutedBy_peers : (s.mutedBy b).peers = s.peers.set b.sender (s.mutedEntry b) := by
  rw [mutedBy_eq hst, updatePeer_peers, hearPeer_peers, Six.set_set, roleTaken_peers hst]

theorem State.mutedBy_selector : (s.mutedBy b).selector = s.selector := by
  rw [mutedBy_eq hst, (Works.updatePeer ..).selector, entered_selector, hearPeer_selector, roleTaken_selector hst]

theorem State.mutedBy_bare {c : Nat} (hc : 50 ≤ c) : (s.mutedBy b).bare c = (s.told b).bare c := by
  rw [mutedBy_eq hst, updatePeer_bare _ _ _ (by omega) (by omega) (by omega) (by omega) (by omega), hearPeer_bare _ _ _ hc]

theorem State.mutedBy_queue : (s.mutedBy b).isolation.queue = s.isolation.queue
    ∧ (s.mutedBy b).isolation.probation = s.isolation.probation := by
  obtain ⟨queue, probation⟩ := (s.scored b).updatePeer_queue b.sender (s.mutedEntry b)
  obtain ⟨queue', probation'⟩ := (s.told b).hearPeer_queue b.sender ((s.peer b.sender).heardFrom b)
  obtain ⟨queue'', probation'', -⟩ := State.roleTaken_queue (i := b.sender) (r := b.published.role) hst
  rw [mutedBy_eq hst]
  exact ⟨(queue.trans queue').trans queue'', (probation.trans probation').trans probation''⟩

include trusted

/-- The peer leaves the readmit-owed list (R152). -/
theorem State.mutedBy_owed :
    (s.mutedBy b).isolation.owed = s.isolation.owed.filter (fun i => decide (i ≠ b.sender)) := by
  let e1 := (s.peer b.sender).heardFrom b
  have trusted1 : e1.state.trusted = true := heardFrom_trusted trusted b
  have entry : (s.scored b).peer b.sender = e1 := hearPeer_peer
  obtain ⟨-, -, -, owed⟩ := (Works.updatePeer (s.scored b) b.sender (s.mutedEntry b)).isolation
  obtain ⟨-, -, -, heard⟩ := (Works.hearPeer (s.told b) b.sender e1).isolation
  obtain ⟨-, -, told⟩ := State.roleTaken_queue (i := b.sender) (r := b.published.role) hst
  have kept : (s.scored b).isolation.owed = s.isolation.owed := by
    refine heard.trans ?_
    rw [entered_isolation, told_peer hst, trusted, trusted1]
    exact told
  rw [mutedBy_eq hst, owed, entered_isolation, entry, trusted1, kept]
  show s.isolation.owed.filter (fun j => j != b.sender) = _
  exact List.filter_congr fun j _ => by rw [Bool.eq_iff_iff]; simp

/-- PEER-DOWN is raised with cause MUTED, at the level of the role the beacon brings (R50, R137). -/
theorem muted_down {t : State} (start : t.start = s.heardStart b.sender b.published.role)
    (bare : t.bare (32 + b.sender.val) = (s.mutedBy b).bare (32 + b.sender.val)) (fills : Fills (s.mutedBy b) t)
    (count : t.engine.beaconCount = (s.mutedBy b).engine.beaconCount) :
    RecordRaised 1 (peerDownOf t b.sender .muted) s t := by
  have hi := b.sender.isLt
  have up : (s.peer b.sender).state.down = false := down_of_trusted trusted
  have up1 : ((s.peer b.sender).heardFrom b).state.down = false := down_of_trusted (heardFrom_trusted trusted b)
  have scored : ((s.scored b).peer b.sender).state.down = false := by rw [State.hearPeer_peer]; exact up1
  let u := (s.scored b).entered b.sender (s.mutedEntry b)
  have noted : u.start = s.heardStart b.sender b.published.role :=
    ((Course.scored hst).trans (Course.entered _ b.sender _)).start_eq (State.frameNoted_unparked hst)
  have same : u.downRaise b.sender .muted = peerDownOf t b.sender .muted := by
    rw [State.downRaise, peerDownOf, noted, start]; rfl
  have raised : (s.scored b).downEvaluated b.sender (s.mutedEntry b) = u.raise (peerDownOf t b.sender .muted) := by
    rw [← same, State.downEvaluated, State.evalDown, scored]; rfl
  have synthetic : Synthetic (peerDownOf t b.sender .muted) := same ▸ u.downRaise_synthetic b.sender .muted
  have before : u.bare (32 + b.sender.val) = s.bare (32 + b.sender.val) := by
    rw [State.bare_of_engine ((s.scored b).entered_engine b.sender _),
      State.hearPeer_bare_down (by rw [State.told_peer hst]; exact up) up1]
    exact State.roleTaken_bare hst (by omega) (by omega) (by omega) (by omega)
  have untrusted : (s.mutedEntry b).state.trusted = false := rfl
  rw [State.mutedBy_eq hst] at bare fills count
  refine RecordRaised.raise synthetic before ?_ ?_ ?_
  · rw [← raised]; exact bare.trans ((s.scored b).updatePeer_bare_down b.sender _)
  · rw [← raised]; exact (Fills.afterDown b.sender untrusted).trans fills
  · rw [count, (Course.updatePeer ..).beaconCount, (Course.entered ..).beaconCount]

/-- PEER-POSTURE and CONFIG-MISMATCH move by the beacon and then end (R53, R54; log 32). -/
theorem muted_records {t : State} (bare : ∀ c, c ≠ 57 → c ≠ 59 → c ≠ 4 → t.bare c = (s.mutedBy b).bare c)
    (fills : Fills (s.mutedBy b) t) (count : t.engine.beaconCount = (s.mutedBy b).engine.beaconCount)
    (table : TableLaw s.engine.records) :
    PosturePasses b.sender (adoptedOf (s.peer b.sender)) (adoptedFrom b.flags.isolated b.ownLevel) s t
      ∧ if mismatchOf s (s.peer b.sender) = true then RecordEnds (44 + b.sender.val) s t
        else if b.period ≠ s.config.period then RecordPasses (configMismatchOf b.sender) s t
        else RecordStays (44 + b.sender.val) s t := by
  have hi := b.sender.isLt
  let e1 := (s.peer b.sender).heardFrom b
  have trusted1 : e1.state.trusted = true := heardFrom_trusted trusted b
  have entry : (s.scored b).peer b.sender = e1 := State.hearPeer_peer
  have config : (s.scored b).config = s.config := (Course.scored hst).config
  have untrusted : (s.mutedEntry b).state.trusted = false := rfl
  have adopted : adoptedOf e1 = adoptedFrom b.flags.isolated b.ownLevel := if_pos ((trusted_iff _).1 trusted1)
  have mismatch : (mismatchOf s e1 = true) ↔ b.period ≠ s.config.period := by
    rw [mismatchOf, decide_eq_true_iff]
    exact ⟨fun ⟨_, p, hp, ne⟩ => Option.some.inj hp ▸ ne, fun ne => ⟨(trusted_iff _).1 trusted1, _, rfl, ne⟩⟩
  obtain ⟨moved, -⟩ := stored_records hst (down_of_trusted trusted) (down_of_trusted trusted1)
    (t := s.scored b) (fun _ _ _ _ => rfl) (.refl _) rfl
  obtain ⟨posture, period⟩ := moved table
  rw [State.mutedBy_eq hst] at bare fills count
  have filled : Fills (s.scored b) t := (Fills.updatePeer b.sender (.inr untrusted)).trans fills
  have counted : t.engine.beaconCount = (s.scored b).engine.beaconCount := count.trans (Course.updatePeer ..).beaconCount
  rw [adopted] at posture
  refine ⟨PosturePasses.of_follows posture ?_ filled counted, ?_⟩
  · rw [bare _ (by omega) (by omega) (by omega), State.updatePeer_bare_posture_of_untrusted untrusted, entry, adopted_eq,
      adopted]
  · have held : mismatchOf (s.scored b) e1 = mismatchOf s e1 := by rw [mismatchOf, mismatchOf, config]
    have post : t.bare (44 + b.sender.val) = if mismatchOf s e1 = true then
        ((s.scored b).conditionGone (44 + b.sender.val)).bare (44 + b.sender.val)
        else (s.scored b).bare (44 + b.sender.val) := by
      rw [bare _ (by omega) (by omega) (by omega), State.updatePeer_bare_mismatch_of_untrusted untrusted, entry, held]
    have passes : if mismatchOf s (s.peer b.sender) = true then RecordEnds (44 + b.sender.val) s t
        else if mismatchOf s e1 = true then RecordPasses (configMismatchOf b.sender) s t
        else RecordStays (44 + b.sender.val) s t :=
      mismatch_of_muted (a := configMismatchOf b.sender) period post filled counted
    simpa only [mismatch] using passes

end

/-! ### The assembly -/

/-- What every beacon that is stored leaves, whether it mutes or not. -/
structure BeaconStored (b : Beacon) (s t : State) : Prop where
  changes : OnlyChanges [.start, .line, .peers, .selector, .isolation, .engine, .envelope, .pins] s t
  lineErrors : t.line.lineErrors = s.line.lineErrors - 1
  own : t.selector.own = s.selector.own
  served : t.selector.served = t.resolved
  band : BandFollows s t
  role : RoleHeard b.sender b.published.role s t
  latches : ∀ r ∈ s.record 54, r.life = .holds → 5 ≤ r.level → s.start.missingHeld = true →
    t.start.missingHeld = false → (t.record 54).map Record.life = some .latched
  conditions : s.station = .run → ConditionsLaw s → ConditionsLaw t ∧ SelectorRecords s t
  handed : HandedOver s t

section
variable {b : Beacon} {s m : State} (hst : s.station = .join ∨ s.station = .run)
include hst

theorem BeaconStored.of_concluded (course : Course (s.told b) m) (sel : m.selector = s.selector)
    (bare : ∀ c, 50 ≤ c → m.bare c = (s.told b).bare c)
    (h : BeaconConcluded b.sender b.published.role s m (s.handOver m.refreshServed)) :
    BeaconStored b s (s.handOver m.refreshServed) where
  changes := h.changes
  lineErrors := h.lineErrors
  own := h.own
  served := h.served
  band := h.band
  role := h.role
  latches := missing_latches h.start
    ((h.bare 54 (by decide) (by decide) (by decide)).trans (bare 54 (by decide)))
  conditions := BeaconConcluded.selectorRecords hst course sel
    ((bare 57 (by decide)).trans (State.roleTaken_bare hst (by decide) (by decide) (by decide) (by decide)))
    ((bare 59 (by decide)).trans (State.roleTaken_bare hst (by decide) (by decide) (by decide) (by decide)))
  handed := h.handed

/-- A beacon that is stored and mutes nobody. -/
theorem beacon_stored (still : Settled s) {e' : PeerEntry} (up : (s.peer b.sender).state.down = false)
    (up' : e'.state.down = false) :
    ∃ t, s.finish ((s.told b).hearPeer b.sender e') = t ∧ BeaconStored b s t ∧ t.peers = s.peers.set b.sender e'
      ∧ (TableLaw s.engine.records → EntryRecords b.sender (s.peer b.sender) (t.peer b.sender) s t)
      ∧ RecordStays (32 + b.sender.val) s t := by
  let m := (s.told b).hearPeer b.sender e'
  have course : Course (s.told b) m := .hearPeer ..
  have sel : m.selector = s.selector := (State.hearPeer_selector ..).trans (State.roleTaken_selector hst)
  obtain ⟨queue, probation⟩ := (s.told b).hearPeer_queue b.sender e'
  obtain ⟨queue', probation', -⟩ := State.roleTaken_queue (i := b.sender) (r := b.published.role) hst
  have concluded := BeaconConcluded.of_course hst course sel
  have peers : m.peers = s.peers.set b.sender e' := by rw [State.hearPeer_peers, State.roleTaken_peers hst]
  have entry : (s.handOver m.refreshServed).peer b.sender = e' := by
    rw [State.peer, concluded.peers, peers, Six.get_set, if_pos rfl]
  refine ⟨s.handOver m.refreshServed, finish_of_beacon hst course still (queue.trans queue') (probation.trans probation'),
    .of_concluded hst course sel (fun c hc => State.hearPeer_bare _ _ _ hc) concluded, concluded.peers.trans peers, ?_⟩
  rw [entry]
  exact stored_records hst up up' concluded.bare concluded.fills concluded.beaconCount

/-- A beacon that mutes its sender. -/
theorem beacon_mutes (still : Settled s) (trusted : (s.peer b.sender).state.trusted = true) :
    ∃ t, s.finish (s.mutedBy b) = t ∧ BeaconStored b s t ∧ t.peers = s.peers.set b.sender (s.mutedEntry b)
      ∧ MutedAtBeacon b (s.peer b.sender) s t := by
  have course : Course (s.told b) (s.mutedBy b) := (Course.hearPeer ..).trans (.mute ..)
  have sel := State.mutedBy_selector (b := b) hst
  obtain ⟨queue, probation⟩ := State.mutedBy_queue (b := b) hst
  have concluded := BeaconConcluded.of_course hst course sel
  refine ⟨s.handOver (s.mutedBy b).refreshServed, finish_of_beacon hst course still queue probation,
    .of_concluded hst course sel (fun c hc => State.mutedBy_bare hst hc) concluded,
    concluded.peers.trans (State.mutedBy_peers hst), ?_, ?_, ?_⟩
  · have hi := b.sender.isLt
    exact muted_down hst trusted concluded.start (concluded.bare _ (by omega) (by omega) (by omega)) concluded.fills
      concluded.beaconCount
  · exact concluded.owed.trans (State.mutedBy_owed hst trusted)
  · exact muted_records hst trusted concluded.bare concluded.fills concluded.beaconCount

end

/-- Settles O47, by the state that has taken the frame and its role, the change of the entry from there, and the end of
the handling. -/
theorem beaconIsStoredAndScored : Obligations.BeaconIsStoredAndScored := by
  intro b s hst still wf other state
  by_cases absent : (s.peer b.sender).state = .absent
  · have up : (s.peer b.sender).state.down = false := by rw [absent]; rfl
    obtain ⟨t, ran, stored, peers, records⟩ := beacon_stored hst still up (firstHeard_up _ b)
    refine ⟨t, ?_, stored.changes, stored.lineErrors, stored.own, stored.served, stored.band, stored.role, ?_,
      stored.latches, ?_, stored.conditions, stored.handed⟩
    · rw [execBeacon hst wf other, State.takeBeacon_of_absent hst absent, ran]
    · rw [if_pos absent]; exact peers
    · rw [if_neg fun h => h.1 absent]; exact records
  · obtain ⟨trusted, parking, joining⟩ := state.resolve_left absent
    have taken := State.takeBeacon_of_trusted hst trusted parking joining
    rw [State.reportScore_of_heard hst trusted parking] at taken
    by_cases mutes : mutesBy s (s.peer b.sender) b = true
    · obtain ⟨t, ran, stored, peers, muted⟩ := beacon_mutes hst still trusted
      refine ⟨t, ?_, stored.changes, stored.lineErrors, stored.own, stored.served, stored.band, stored.role, ?_,
        stored.latches, ?_, stored.conditions, stored.handed⟩
      · rw [execBeacon hst wf other, taken, if_pos mutes, ran]
      · rw [if_neg absent, if_pos mutes]; exact peers
      · rw [if_pos ⟨absent, mutes⟩]; exact muted
    · obtain ⟨t, ran, stored, peers, records⟩ :=
        beacon_stored hst still (down_of_trusted trusted) (down_of_trusted (heardFrom_trusted trusted b))
      refine ⟨t, ?_, stored.changes, stored.lineErrors, stored.own, stored.served, stored.band, stored.role, ?_,
        stored.latches, ?_, stored.conditions, stored.handed⟩
      · rw [execBeacon hst wf other, taken, if_neg mutes, ran]
      · rw [if_neg absent, if_neg mutes]; exact peers
      · rw [if_neg fun h => mutes h.2]; exact records

end Sys2Proof.Machine
end

section
/-! The conditions that are presented while they hold: one condition to a code. -/

namespace Sys2Proof.Machine

/-- A condition of the part whose record is presented while it holds (R10, R31, R49, R62). -/
inductive Cond where
  | txFail | degraded | stuck
  | down (i : Station) | posture (i : Station) | mismatch (i : Station)
  | missing | conflict
  | disputed | speedUnknown | brake | charge

/-- The code of its record. -/
def Cond.code : Cond → Nat
  | txFail => 52
  | degraded => 50
  | stuck => 51
  | down i => 32 + i.val
  | posture i => 38 + i.val
  | mismatch i => 44 + i.val
  | missing => 54
  | conflict => 53
  | disputed => 56
  | speedUnknown => 57
  | brake => 58
  | charge => 59

/-- A raise, where its condition holds. -/
def raiseIf (b : Bool) (a : Raise) : Option Raise := if b then some a else none

/-- The raise of a condition that holds. -/
def Cond.now (s : State) : Cond → Option Raise
  | txFail => raiseIf (decide (8 ≤ s.line.txFailures)) txFailRaise
  | degraded => raiseIf s.line.degraded degradedRaise
  | stuck => raiseIf (decide (s.line.stuck ≠ .clear)) stuckRaise
  | down i => raiseIf (s.peer i).state.down (peerDownOf s i (s.peer i).downCause)
  | posture i => (adoptedOf (s.peer i)).map (peerPostureOf i)
  | mismatch i => raiseIf (mismatchOf s (s.peer i)) (configMismatchOf i)
  | missing => raiseIf (s.station.riding && s.start.missingHeld) roleMissingRaise
  | conflict => raiseIf (s.station.riding && s.start.conflictHeld) roleConflictRaise
  | disputed => raiseIf (s.station.riding && (s.selector.speedDisputed || s.selector.voltageDisputed)) disputedRaise
  | speedUnknown => raiseIf (s.station.riding && s.selector.speedUnknown) speedUnknownRaise
  | brake => raiseIf (s.station.riding && s.selector.brakeHolds) brakeThrottleRaise
  | charge => raiseIf (s.station.riding && s.selector.chargeHolds) chargeInterlockRaise

@[simp] theorem raiseIf_eq_some {b : Bool} {a c : Raise} : raiseIf b a = some c ↔ b = true ∧ a = c := by
  cases b <;> simp [raiseIf]

@[simp] theorem raiseIf_eq_none {b : Bool} {a : Raise} : raiseIf b a = none ↔ b = false := by
  cases b <;> simp [raiseIf]

theorem mem_presentedIf {b : Bool} {a c : Raise} : c ∈ presentedIf b a ↔ raiseIf b a = some c := by
  cases b <;> simp [presentedIf, raiseIf, eq_comm]

/-- The code of a raise is that of its condition. -/
theorem Cond.now_code {s : State} {k : Cond} {a : Raise} (h : k.now s = some a) : a.code = k.code := by
  cases k with
  | posture i =>
    obtain ⟨l, -, rfl⟩ := Option.map_eq_some_iff.1 h
    rfl
  | _ => obtain ⟨-, rfl⟩ := raiseIf_eq_some.1 h; rfl

theorem Cond.code_range (k : Cond) : 32 ≤ k.code := by
  cases k <;> simp only [code] <;> omega

theorem Cond.code_ne {k : Cond} {c : Nat} (h : c < 32) : c ≠ k.code := by have := k.code_range; omega

/-- No two conditions share a code. -/
theorem Cond.code_injective : Function.Injective Cond.code := by
  intro k l h
  cases k <;> cases l <;>
    simp only [code, down.injEq, posture.injEq, mismatch.injEq, reduceCtorEq, Fin.ext_iff] at h ⊢ <;> omega

theorem Cond.eq_of_now {s : State} {k l : Cond} {a : Raise} (h : k.now s = some a) (hl : a.code = l.code) : k = l :=
  Cond.code_injective ((Cond.now_code h).symm.trans hl)

/-- Its raise carries no input and is of synthetic origin (R74). -/
theorem Cond.now_synthetic {s : State} {k : Cond} {a : Raise} (h : k.now s = some a) : Synthetic a := by
  cases k with
  | posture i => obtain ⟨l, -, rfl⟩ := Option.map_eq_some_iff.1 h; exact postureRaise_synthetic i l
  | down i => obtain ⟨-, rfl⟩ := raiseIf_eq_some.1 h; exact s.downRaise_synthetic i _
  | mismatch i => obtain ⟨-, rfl⟩ := raiseIf_eq_some.1 h; exact mismatchRaise_synthetic i
  | _ => obtain ⟨-, rfl⟩ := raiseIf_eq_some.1 h; exact ⟨rfl, rfl, by decide, by decide⟩

theorem mem_presentedOf {s : State} {i : Station} {a : Raise} :
    a ∈ presentedOf s i ↔ (Cond.down i).now s = some a ∨ (Cond.posture i).now s = some a ∨ (Cond.mismatch i).now s = some a := by
  rw [presentedOf, List.mem_append, List.mem_append, mem_presentedIf, mem_presentedIf, Option.mem_toList,
    or_assoc]
  rfl

theorem mem_presentedEntries {s : State} {a : Raise} :
    a ∈ (([0, 1, 2, 3, 4, 5] : List Station).map (presentedOf s)).flatten ↔ ∃ i, a ∈ presentedOf s i := by
  simp only [List.mem_flatten, List.mem_map]
  constructor
  · rintro ⟨l, ⟨i, -, rfl⟩, h⟩; exact ⟨i, h⟩
  · rintro ⟨i, h⟩; exact ⟨_, ⟨i, by fin_cases i <;> decide, rfl⟩, h⟩

/-- The conditions of RUN and PARKING. -/
theorem mem_presentedRiding {s : State} {a : Raise} :
    (a ∈ if s.station.riding = true then
        presentedIf s.start.missingHeld { code := 54, level := 6, fm := 0, fr := 128 }
          ++ presentedIf s.start.conflictHeld { code := 53, level := 7, fm := 0, fr := 0 }
          ++ presentedIf (s.selector.speedDisputed || s.selector.voltageDisputed)
            { code := 56, level := 3, fm := 256, fr := 256 }
          ++ presentedIf s.selector.speedUnknown { code := 57, level := 5, fm := 256, fr := 256 }
          ++ presentedIf s.selector.brakeHolds { code := 58, level := 4, fm := 0, fr := 256 }
          ++ presentedIf s.selector.chargeHolds { code := 59, level := 6, fm := 0, fr := 0 }
      else [])
      ↔ Cond.missing.now s = some a ∨ Cond.conflict.now s = some a ∨ Cond.disputed.now s = some a
        ∨ Cond.speedUnknown.now s = some a ∨ Cond.brake.now s = some a ∨ Cond.charge.now s = some a := by
  cases h : s.station.riding with
  | false => simp [Cond.now, h]
  | true =>
    simp only [if_true, List.mem_append, mem_presentedIf, or_assoc, Cond.now, h, Bool.true_and]
    rfl

/-- What an own expiry presents are the conditions that hold. -/
theorem mem_presentedBy {s : State} {a : Raise} : a ∈ presentedBy s ↔ ∃ k, Cond.now s k = some a := by
  rw [presentedBy, List.mem_append, mem_presentedRiding, List.mem_append, mem_presentedEntries, List.mem_append,
    List.mem_append, mem_presentedIf, mem_presentedIf, mem_presentedIf]
  simp only [mem_presentedOf]
  constructor
  · rintro ((((h | h) | h) | ⟨i, h | h | h⟩) | h | h | h | h | h | h)
    · exact ⟨.txFail, h⟩
    · exact ⟨.degraded, h⟩
    · exact ⟨.stuck, h⟩
    · exact ⟨.down i, h⟩
    · exact ⟨.posture i, h⟩
    · exact ⟨.mismatch i, h⟩
    · exact ⟨.missing, h⟩
    · exact ⟨.conflict, h⟩
    · exact ⟨.disputed, h⟩
    · exact ⟨.speedUnknown, h⟩
    · exact ⟨.brake, h⟩
    · exact ⟨.charge, h⟩
  · rintro ⟨k, h⟩
    cases k with
    | txFail => exact .inl (.inl (.inl (.inl h)))
    | degraded => exact .inl (.inl (.inl (.inr h)))
    | stuck => exact .inl (.inl (.inr h))
    | down i => exact .inl (.inr ⟨i, .inl h⟩)
    | posture i => exact .inl (.inr ⟨i, .inr (.inl h)⟩)
    | mismatch i => exact .inl (.inr ⟨i, .inr (.inr h)⟩)
    | missing => exact .inr (.inl h)
    | conflict => exact .inr (.inr (.inl h))
    | disputed => exact .inr (.inr (.inr (.inl h)))
    | speedUnknown => exact .inr (.inr (.inr (.inr (.inl h))))
    | brake => exact .inr (.inr (.inr (.inr (.inr (.inl h)))))
    | charge => exact .inr (.inr (.inr (.inr (.inr (.inr h)))))

end Sys2Proof.Machine
end

section
/-! What a stretch of an own expiry does to the records of conditions: presentations, raises and ends. -/

namespace Sys2Proof.Machine

/-! ### A record that is at most presented -/

/-- From `x` to `y` the record of `a` stays, or the absent one has been created by `a`. -/
def Shows (a : Raise) (x y : State) : Prop :=
  (y.bare a.code = x.bare a.code ∨ x.bare a.code = none ∧ y.bare a.code = some (createdBy a y))
    ∧ Fills x y ∧ y.engine.beaconCount = x.engine.beaconCount

/-- The same where `a` has been presented. -/
def Shown (a : Raise) (x y : State) : Prop := Shows a x y ∧ (x.bare a.code = none → RecordCreated a y)

theorem createdBy_congr {a : Raise} {x y : State} (h : y.engine.beaconCount = x.engine.beaconCount) :
    createdBy a y = createdBy a x := by rw [createdBy, createdBy, h]

theorem Shows.still {a : Raise} {x y : State} (bare : y.bare a.code = x.bare a.code) (fills : Fills x y)
    (count : y.engine.beaconCount = x.engine.beaconCount) : Shows a x y := ⟨.inl bare, fills, count⟩

theorem Shows.trans {a : Raise} {x y z : State} (h : Shows a x y) (h' : Shows a y z) : Shows a x z := by
  obtain ⟨bare, fills, count⟩ := h
  obtain ⟨bare', fills', count'⟩ := h'
  refine ⟨?_, fills.trans fills', count'.trans count⟩
  rcases bare with bare | ⟨absent, created⟩
  · rcases bare' with bare' | ⟨absent, created⟩
    · exact .inl (bare'.trans bare)
    · exact .inr ⟨bare.symm.trans absent, created⟩
  · rcases bare' with bare' | ⟨absent', -⟩
    · exact .inr ⟨absent, by rw [bare', created, createdBy_congr count']⟩
    · rw [created] at absent'; cases absent'

/-- Once presented, the record is there or every general slot is occupied. -/
theorem RecordCreated.shows {a : Raise} {y z : State} (h : RecordCreated a y) (h' : Shows a y z) : RecordCreated a z := by
  obtain ⟨bare', fills', count'⟩ := h'
  rcases bare' with bare' | ⟨-, created⟩
  · rcases h with created | ⟨full, absent⟩
    · exact .inl (bare'.trans (created.trans (by rw [createdBy_congr count'])))
    · exact .inr ⟨fills'.1 full, State.bare_eq_none.1 (bare'.trans (State.bare_eq_none.2 absent))⟩
  · exact .inl created

theorem Shown.trans_shows {a : Raise} {x y z : State} (h : Shown a x y) (h' : Shows a y z) : Shown a x z :=
  ⟨h.1.trans h', fun absent => (h.2 absent).shows h'⟩

theorem Shows.trans_shown {a : Raise} {x y z : State} (h : Shows a x y) (h' : Shown a y z) : Shown a x z := by
  refine ⟨h.trans h'.1, fun absent => ?_⟩
  rcases h.1 with same | ⟨-, created⟩
  · exact h'.2 (same.trans absent)
  · exact RecordCreated.shows (.inl created) h'.1

theorem Shown.present {a : Raise} (ha : Synthetic a) (x : State) : Shown a x (x.present a) := by
  have count : (x.present a).engine.beaconCount = x.engine.beaconCount := (Works.present x a).counts.1
  have created : x.bare a.code = none → RecordCreated a (x.present a) := fun absent =>
    RecordCreated.present ha (State.bare_eq_none.1 absent) rfl (.refl _) count
  refine ⟨⟨?_, .present x a, count⟩, created⟩
  cases h : x.bare a.code with
  | some r => exact .inl ((RecordStays.present ha (isSome_of_bare h)).trans h)
  | none =>
    rcases created h with made | ⟨-, absent⟩
    · exact .inr ⟨rfl, made⟩
    · exact .inl (State.bare_eq_none.2 absent)

/-! ### Acts -/

/-- From `x` to `y` records of conditions are raised, ended and presented by the conditions in `B`, `E` and `P`, and each
condition in `Q` has been presented; CEASED apart, no other record changes. -/
inductive Acts (B E : Cond → Prop) (P : Cond → Raise → Prop) : (Cond → Prop) → State → State → Prop
  | still {x y : State} {Q : Cond → Prop} (bare : ∀ c, c ≠ 3 → y.bare c = x.bare c) (fills : Fills x y)
      (count : y.engine.beaconCount = x.engine.beaconCount) (none : ∀ k, ¬ Q k) : Acts B E P Q x y
  | present {x : State} {Q : Cond → Prop} {k : Cond} {a : Raise} (ha : Synthetic a) (code : a.code = k.code) (h : P k a)
      (only : ∀ l, Q l → l = k) : Acts B E P Q x (x.present a)
  | raise {x : State} {Q : Cond → Prop} {k : Cond} {a : Raise} (code : a.code = k.code) (h : B k)
      (none : ∀ l, ¬ Q l) : Acts B E P Q x (x.raise a)
  | gone {x : State} {Q : Cond → Prop} {k : Cond} (h : E k) (none : ∀ l, ¬ Q l) :
      Acts B E P Q x (x.conditionGone k.code)
  | trans {x y z : State} {Q Q' Q'' : Cond → Prop} (h : Acts B E P Q x y) (h' : Acts B E P Q' y z)
      (both : ∀ k, Q'' k → Q k ∨ Q' k) : Acts B E P Q'' x z

section
variable {B E : Cond → Prop} {P : Cond → Raise → Prop} {Q : Cond → Prop} {x y : State}

theorem Acts.mono {B' E' : Cond → Prop} {P' : Cond → Raise → Prop} {Q' : Cond → Prop} (h : Acts B E P Q x y)
    (hB : ∀ k, B k → B' k) (hE : ∀ k, E k → E' k) (hP : ∀ k a, P k a → P' k a) (hQ : ∀ k, Q' k → Q k) :
    Acts B' E' P' Q' x y := by
  induction h generalizing Q' with
  | still bare fills count none => exact .still bare fills count fun k hk => none k (hQ k hk)
  | present ha code h only => exact .present ha code (hP _ _ h) fun l hl => only l (hQ l hl)
  | raise code h none => exact .raise code (hB _ h) fun l hl => none l (hQ l hl)
  | gone h none => exact .gone (hE _ h) fun l hl => none l (hQ l hl)
  | trans _ _ both ih ih' =>
    exact .trans (ih fun _ => id) (ih' fun _ => id) fun k hk => both k (hQ k hk)

/-- A condition that is neither raised nor ended is at most presented. -/
theorem Acts.shows {k : Cond} {a : Raise} (ha : Synthetic a) (code : a.code = k.code) (hB : ¬ B k) (hE : ¬ E k)
    (hP : ∀ c, P k c → c = a) (h : Acts B E P Q x y) : Shows a x y ∧ (Q k → Shown a x y) := by
  have h3 : a.code ≠ 3 := by rw [code]; exact (Cond.code_ne (by decide)).symm
  have h4 : a.code ≠ 4 := by rw [code]; exact (Cond.code_ne (by decide)).symm
  induction h with
  | still bare fills count none => exact ⟨.still (bare _ h3) fills count, fun hk => absurd hk (none k)⟩
  | @present u Q l c hc hcode h only =>
    by_cases same : l = k
    · subst same
      rw [hP c h]
      exact ⟨(Shown.present ha u).1, fun _ => Shown.present ha u⟩
    · have ne : a.code ≠ c.code := by
        rw [code, hcode]; exact fun h => same (Cond.code_injective h).symm
      refine ⟨.still ?_ (.present u c) (Works.present u c).counts.1, fun hk => absurd (only k hk).symm same⟩
      rw [State.present_bare u hc.2.2.2, if_neg ne]
  | @raise u Q l c hcode h none =>
    have ne : a.code ≠ c.code := by
      rw [code, hcode]; exact fun same => hB (Cond.code_injective same ▸ h)
    refine ⟨.still ?_ (.raise u c) (Works.raise u c).counts.1, fun hk => absurd hk (none k)⟩
    rw [State.raise_bare u c h4, if_neg ne]
  | @gone u Q l h none =>
    have ne : a.code ≠ l.code := by
      rw [code]; exact fun same => hE (Cond.code_injective same ▸ h)
    refine ⟨.still ?_ (.conditionGone u _) (Works.conditionGone u _).counts.1, fun hk => absurd hk (none k)⟩
    rw [State.conditionGone_bare, if_neg ne]
  | trans _ _ both ih ih' =>
    refine ⟨ih.1.trans ih'.1, fun hk => ?_⟩
    rcases both k hk with hk | hk
    · exact (ih.2 hk).trans_shows ih'.1
    · exact ih.1.trans_shown (ih'.2 hk)

/-- Where no condition begins nothing is folded (R89). -/
theorem Acts.overflow (hB : ∀ k, ¬ B k) (h : Acts B E P Q x y) : y.bare 4 = x.bare 4 := by
  induction h with
  | still bare _ _ _ => exact bare 4 (by decide)
  | @present u Q l c hc hcode _ _ =>
    rw [State.present_bare u hc.2.2.2, if_neg (by rw [hcode]; exact Cond.code_ne (by decide))]
  | raise _ h _ => exact absurd h (hB _)
  | gone _ _ => rw [State.conditionGone_bare, if_neg (Cond.code_ne (by decide))]
  | trans _ _ _ ih ih' => exact ih'.trans ih

end

/-! ### Stretches of a handling that began in `s` -/

/-- At `x` the condition is no longer what it was in `s`. -/
def Left (s x : State) (k : Cond) : Prop := k.now x ≠ k.now s

/-- At `x` the condition holds as it did not in `s`. -/
def Begun (s x : State) (k : Cond) : Prop := Left s x k ∧ (k.now x).isSome = true

/-- A condition that has left what it was in `s` does not come back to it, and one that has begun stays. -/
def Onward (s x y : State) : Prop := ∀ k, (Left s x k → Left s y k) ∧ (Begun s x k → Begun s y k)

/-- Judged at `y`, the condition may have ended. -/
abbrev MayEnd (s y : State) (k : Cond) : Prop := k.now s = none ∨ Left s y k

/-- Judged at `y`, the condition may have been presented with the raise `a`. -/
abbrev MayShow (s y : State) (k : Cond) (a : Raise) : Prop := k.now s = some a ∨ Left s y k

/-- The acts of a stretch, judged at its end `y`; of the conditions in `D`, those that hold as in `s` have been
presented. -/
def ActsTo (s : State) (D : Cond → Prop) (x y : State) : Prop :=
  Acts (Begun s y) (MayEnd s y) (MayShow s y) (fun k => D k ∧ ¬ Left s y k ∧ (k.now s).isSome = true) x y

/-- A stretch of a handling that began in `s`. -/
def Stretch (s : State) (D : Cond → Prop) (x y : State) : Prop := Onward s x y ∧ ActsTo s D x y

theorem Onward.of_eq {s x y : State} (h : ∀ k, Cond.now y k = Cond.now x k) : Onward s x y := fun k => by
  simp only [Begun, Left, h k]; exact ⟨id, id⟩

theorem Onward.trans {s x y z : State} (h : Onward s x y) (h' : Onward s y z) : Onward s x z := fun k =>
  ⟨(h' k).1 ∘ (h k).1, (h' k).2 ∘ (h k).2⟩

theorem Onward.refl (s x : State) : Onward s x x := .of_eq fun _ => rfl

/-- The acts of a stretch, judged at the end of a later one. -/
theorem ActsTo.onward {s x y z : State} {D : Cond → Prop} (h : ActsTo s D x y) (o : Onward s y z) :
    Acts (Begun s z) (MayEnd s z) (MayShow s z) (fun k => D k ∧ ¬ Left s z k ∧ (k.now s).isSome = true) x y :=
  Acts.mono h (fun k => (o k).2) (fun k h => h.imp id (o k).1) (fun k _ h => h.imp id (o k).1)
    fun k ⟨d, still, held⟩ => ⟨d, fun left => still ((o k).1 left), held⟩

theorem Stretch.trans {s x y z : State} {D D' D'' : Cond → Prop} (h : Stretch s D x y) (h' : Stretch s D' y z)
    (both : ∀ k, D'' k → D k ∨ D' k) : Stretch s D'' x z :=
  ⟨h.1.trans h'.1, .trans (h.2.onward h'.1) h'.2 fun k ⟨d, still, held⟩ =>
    (both k d).imp (fun d => ⟨d, still, held⟩) fun d => ⟨d, still, held⟩⟩

/-- No condition in particular. -/
def noCond : Cond → Prop := fun _ => False

theorem Stretch.next {s x y z : State} {D D' : Cond → Prop} (h : Stretch s D x y) (h' : Stretch s D' y z) :
    Stretch s (fun k => D k ∨ D' k) x z := h.trans h' fun _ => id

theorem Stretch.and_then {s x y z : State} {D : Cond → Prop} (h : Stretch s D x y) (h' : Stretch s noCond y z) :
    Stretch s D x z := h.trans h' fun _ => .inl

/-- Acts that present nothing, judged at `z`. -/
abbrev Judged (s z x y : State) : Prop := Acts (Begun s z) (MayEnd s z) (MayShow s z) noCond x y

/-- A stretch in which no condition changes and no record does. -/
theorem Stretch.still {s x y : State} (now : ∀ k, Cond.now y k = Cond.now x k) (bare : ∀ c, c ≠ 3 → y.bare c = x.bare c)
    (fills : Fills x y) (count : y.engine.beaconCount = x.engine.beaconCount) : Stretch s noCond x y :=
  ⟨.of_eq now, .still bare fills count fun _ h => h.1⟩

theorem Stretch.refl (s x : State) : Stretch s noCond x x := .still (fun _ => rfl) (fun _ _ => rfl) (.refl x) rfl

/-! ### What a whole handling has presented -/

/-- A raise that is presented in `s` and in `t` is that of one condition. -/
theorem Cond.now_of_both {s t : State} {a : Raise} (hs : a ∈ presentedBy s) (ht : a ∈ presentedBy t) :
    ∃ k : Cond, k.now s = some a ∧ k.now t = some a := by
  obtain ⟨k, hk⟩ := mem_presentedBy.1 hs
  obtain ⟨l, hl⟩ := mem_presentedBy.1 ht
  exact ⟨k, hk, Cond.eq_of_now hl (Cond.now_code hk) ▸ hl⟩

/-- Every condition that holds throughout has been presented, and its record is otherwise left alone. -/
theorem Stretch.shown {s w t : State} {D : Cond → Prop} (h : Stretch s D w t) (all : ∀ k, D k) {a : Raise}
    (hs : a ∈ presentedBy s) (ht : a ∈ presentedBy t) : Shown a w t := by
  obtain ⟨k, ks, kt⟩ := Cond.now_of_both hs ht
  have still : ¬ Left s t k := fun left => left (kt.trans ks.symm)
  have ended : ¬(k.now s = none ∨ Left s t k) := not_or.2 ⟨by rw [ks]; exact nofun, still⟩
  refine (Acts.shows (Cond.now_synthetic ks) (Cond.now_code ks) (fun begun => still begun.1) ended (fun c hc => ?_) h.2).2
    ⟨all k, still, by rw [ks]; rfl⟩
  rcases hc with hc | left
  · exact Option.some.inj (hc.symm.trans ks)
  · exact absurd left still

/-- Where no condition is new, OVERFLOW stays. -/
theorem Stretch.overflow {s w t : State} {D : Cond → Prop} (h : Stretch s D w t)
    (old : ∀ a ∈ presentedBy t, a ∈ presentedBy s) : t.bare 4 = w.bare 4 := by
  refine Acts.overflow (fun k ⟨left, held⟩ => ?_) h.2
  obtain ⟨a, kt⟩ := Option.isSome_iff_exists.1 held
  obtain ⟨l, ls⟩ := mem_presentedBy.1 (old a (mem_presentedBy.2 ⟨k, kt⟩))
  have same : l = k := Cond.eq_of_now ls (Cond.now_code kt)
  exact left (kt.trans (same ▸ ls).symm)

end Sys2Proof.Machine
end

section
/-! What stays of the conditions while an own expiry goes on, and the presentations. -/

namespace Sys2Proof.Machine

/-! ### What a condition is read from -/

theorem Alike.refl (e : PeerEntry) : Alike e e := ⟨rfl, rfl, rfl, rfl, rfl, rfl⟩

theorem Alike.trans {a b c : PeerEntry} (h : Alike a b) (h' : Alike b c) : Alike a c := by
  obtain ⟨trusted, down, cause, flags, level, period⟩ := h
  obtain ⟨trusted', down', cause', flags', level', period'⟩ := h'
  exact ⟨trusted'.trans trusted, down'.trans down, cause'.trans cause, flags'.trans flags, level'.trans level,
    period'.trans period⟩

theorem Alike.adopted {e e' : PeerEntry} (h : Alike e e') : adoptedOf e' = adoptedOf e := by
  obtain ⟨trusted, -, -, flags, level, -⟩ := h
  rw [← adopted_eq, ← adopted_eq, PeerEntry.adopted, PeerEntry.adopted, trusted, flags, level]

theorem Alike.mismatch {e e' : PeerEntry} (h : Alike e e') {s t : State} (config : t.config = s.config) :
    mismatchOf t e' = mismatchOf s e := by
  obtain ⟨trusted, -, -, -, -, period⟩ := h
  rw [← mismatch_eq, ← mismatch_eq, PeerEntry.mismatch, PeerEntry.mismatch, trusted, period, config]

/-- The roles of the population record are those of before. -/
def SameRoles (x y : State) : Prop := ∀ i, (y.start.population.get i).role = (x.start.population.get i).role

theorem peerDownOf_congr {x y : State} (h : SameRoles x y) (i : Station) (c : DownCause) :
    peerDownOf y i c = peerDownOf x i c := by rw [peerDownOf, peerDownOf, h i]

/-- The conditions of an entry that is alike. -/
theorem Cond.now_of_alike {x y : State} {i : Station} (h : Alike (x.peer i) (y.peer i)) (roles : SameRoles x y)
    (config : y.config = x.config) : (Cond.down i).now y = (Cond.down i).now x
      ∧ (Cond.posture i).now y = (Cond.posture i).now x ∧ (Cond.mismatch i).now y = (Cond.mismatch i).now x := by
  have h' := h
  obtain ⟨-, down, cause, -, -, -⟩ := h
  refine ⟨?_, ?_, ?_⟩
  · rw [now, now, down, cause, peerDownOf_congr roles]
  · rw [now, now, h'.adopted]
  · rw [now, now, h'.mismatch config]

/-- From `x` to `y` nothing changes that a condition is read from, the entries apart. -/
structure Steady (x y : State) : Prop where
  line : y.line.txFailures = x.line.txFailures ∧ y.line.degraded = x.line.degraded ∧ y.line.stuck = x.line.stuck
  config : y.config = x.config
  start : y.start = { x.start with station := y.station }
  riding : y.station.riding = x.station.riding
  selector : y.selector = x.selector

theorem Steady.of_course {x y : State} (h : Course x y) (sel : y.selector = x.selector) : Steady x y where
  line := by obtain ⟨-, degraded, fails, stuck⟩ := h.lineCounters; exact ⟨fails, degraded, stuck⟩
  config := h.config
  start := h.start_but_station
  riding := h.riding
  selector := sel

theorem Steady.roles {x y : State} (h : Steady x y) : SameRoles x y := fun i => by rw [h.start]

/-- The conditions that are not of an entry. -/
def Cond.isEntry : Cond → Prop
  | down _ | posture _ | mismatch _ => True
  | _ => False

theorem Steady.now {x y : State} (h : Steady x y) {k : Cond} (hk : ¬ k.isEntry) : k.now y = k.now x := by
  obtain ⟨⟨fails, degraded, stuck⟩, -, start, riding, selector⟩ := h
  cases k with
  | txFail => rw [Cond.now, Cond.now, fails]
  | degraded => rw [Cond.now, Cond.now, degraded]
  | stuck => rw [Cond.now, Cond.now, stuck]
  | missing => rw [Cond.now, Cond.now, riding, start]
  | conflict => rw [Cond.now, Cond.now, riding, start]
  | disputed => rw [Cond.now, Cond.now, riding, selector]
  | speedUnknown => rw [Cond.now, Cond.now, riding, selector]
  | brake => rw [Cond.now, Cond.now, riding, selector]
  | charge => rw [Cond.now, Cond.now, riding, selector]
  | down i => exact absurd trivial hk
  | posture i => exact absurd trivial hk
  | mismatch i => exact absurd trivial hk

theorem Steady.now_of_alike {x y : State} (h : Steady x y) (entries : ∀ i, Alike (x.peer i) (y.peer i)) (k : Cond) :
    k.now y = k.now x := by
  cases k with
  | down i => exact (Cond.now_of_alike (entries i) h.roles h.config).1
  | posture i => exact (Cond.now_of_alike (entries i) h.roles h.config).2.1
  | mismatch i => exact (Cond.now_of_alike (entries i) h.roles h.config).2.2
  | _ => exact h.now nofun

/-! ### What is kept while the own expiry goes on -/

/-- An entry is read as before and serves as before. -/
def Kept (e e' : PeerEntry) : Prop :=
  Alike e e' ∧ e'.published = e.published ∧ (e.state.trusted = false → e'.state = e.state)

theorem Kept.refl (e : PeerEntry) : Kept e e := ⟨.refl e, rfl, fun _ => rfl⟩

/-- The entry of peer `i` is as in `s`, or the peer has gone down and does not wait for its probation. -/
def EntryGoes (s x : State) (i : Station) : Prop :=
  Alike (s.peer i) (x.peer i)
    ∨ ((x.peer i).state = .lost ∨ (x.peer i).state = .muted) ∧ i ∉ x.isolation.queue

/-- What a station serves at `y` it has served at `x`. -/
def Shrinks (x y : State) : Prop := ∀ q i v, y.serves q i = some v → x.serves q i = some v

/-- The served values against their sources, in RUN and PARKING: SPEED-UNKNOWN has not ended and CHARGE-INTERLOCK has not
begun since `s`, and the sources can only take that further. -/
structure Fed (s x : State) : Prop where
  fit : ConditionsFit x.selector
  speed : x.selector.served.speed = none → x.resolved.speed = none
  charge : servedValue x.resolved.charger = 1 → servedValue x.selector.served.charger = 1
  speedSince : s.selector.speedUnknown = true → x.selector.speedUnknown = true
  chargeSince : x.selector.chargeHolds = true → s.selector.chargeHolds = true

/-- What holds between the parts of an own expiry that began in `s`, up to the entry to RUN. -/
structure Inv (s x : State) : Prop where
  table : TableLaw x.engine.records
  entries : ∀ i, EntryGoes s x i
  queue : ∀ i ∈ x.isolation.queue, i ∈ s.isolation.queue
  line : x.line.txFailures = s.line.txFailures ∧ x.line.degraded = s.line.degraded ∧ x.line.stuck = s.line.stuck
  config : x.config = s.config
  roles : SameRoles s x
  riding : x.station.riding = s.station.riding
  held : x.start.missingHeld = s.start.missingHeld ∧ x.start.conflictHeld = s.start.conflictHeld ∨ Marked x.start
  fed : s.station.riding = true → Fed s x

/-- The marks of the cross-checks and of BRAKE-THROTTLE stay. -/
def ChecksKept (x y : State) : Prop :=
  y.selector.speedDisputed = x.selector.speedDisputed ∧ y.selector.voltageDisputed = x.selector.voltageDisputed
    ∧ y.selector.brakeHolds = x.selector.brakeHolds

theorem ChecksKept.trans {x y z : State} (h : ChecksKept x y) (h' : ChecksKept y z) : ChecksKept x z :=
  ⟨h'.1.trans h.1, h'.2.1.trans h.2.1, h'.2.2.trans h.2.2⟩

theorem ChecksKept.of_selector {x y : State} (h : y.selector = x.selector) : ChecksKept x y := by
  rw [ChecksKept, h]; exact ⟨rfl, rfl, rfl⟩

/-- A part of the own expiry: it keeps the invariant and is a stretch. -/
def Goes (s : State) (D : Cond → Prop) (x y : State) : Prop := Inv s x → Inv s y ∧ Stretch s D x y ∧ ChecksKept x y

theorem Goes.trans {s x y z : State} {D D' D'' : Cond → Prop} (h : Goes s D x y) (h' : Goes s D' y z)
    (both : ∀ k, D'' k → D k ∨ D' k) : Goes s D'' x z := fun inv => by
  obtain ⟨invy, stretch, checks⟩ := h inv
  obtain ⟨invz, stretch', checks'⟩ := h' invy
  exact ⟨invz, stretch.trans stretch' both, checks.trans checks'⟩

theorem Goes.and_then {s x y z : State} {D : Cond → Prop} (h : Goes s D x y) (h' : Goes s noCond y z) : Goes s D x z :=
  h.trans h' fun _ => .inl

theorem Goes.refl (s x : State) : Goes s noCond x x := fun inv => ⟨inv, .refl s x, .of_selector rfl⟩

theorem Goes.foldl {α : Type} {s : State} {f : State → α → State} (h : ∀ x a, Goes s noCond x (f x a)) (l : List α) :
    ∀ x, Goes s noCond x (l.foldl f x) := by
  induction l with
  | nil => exact .refl s
  | cons a l ih => exact fun x => (h x a).and_then (ih _)

/-! ### Sources -/

theorem Shrinks.refl (x : State) : Shrinks x x := fun _ _ _ => id

theorem Shrinks.trans {x y z : State} (h : Shrinks x y) (h' : Shrinks y z) : Shrinks x z := fun q i v => h q i v ∘ h' q i v

theorem Shrinks.of_entries {x y : State} (own : y.own = x.own) (values : y.selector.own = x.selector.own)
    (trusted : ∀ i, (y.peer i).state.trusted = true → (x.peer i).state.trusted = true ∧ (y.peer i).published = (x.peer i).published) :
    Shrinks x y := by
  intro q i v h
  rw [State.serves, own, State.ownValue, values] at h
  rw [State.serves, State.ownValue]
  split at h
  next hi => rw [if_pos hi]; exact h
  next hi =>
    rw [if_neg hi]
    split at h
    next ht => rw [if_pos (trusted i ht).1, ← (trusted i ht).2]; exact h
    next => cases h

theorem servers_eq_nil {s : State} {q : Quantity} : s.servers q = [] ↔ ∀ i, s.serves q i = none := by
  rw [State.servers, List.filterMap_eq_nil_iff]
  constructor
  · intro h i; exact Option.map_eq_none_iff.1 (h i (by fin_cases i <;> decide))
  · intro h i _; rw [h i]; rfl

theorem firstServer_eq_none {s : State} {q : Quantity} {r : Rank} : s.firstServer q r = none ↔ ∀ i, s.serves q i = none := by
  rw [State.firstServer, Option.map_eq_none_iff, List.head?_eq_none_iff, servers_eq_nil]

/-- The speed is unavailable where no station serves one (R58). -/
theorem resolved_speed_eq_none {s : State} :
    s.resolved.speed = none ↔ (∀ i, s.serves .driveSpeed i = none) ∧ ∀ i, s.serves .wheelSpeed i = none := by
  rw [← firstServer_eq_none (r := .primary), ← firstServer_eq_none (r := .secondary)]
  show s.resolveOrSecondary _ _ = none ↔ _
  unfold State.resolveOrSecondary
  split
  next h => simp [h]
  next h => simp [h]

theorem mem_servers {s : State} {q : Quantity} {i : Station} {v : Nat} : (i, v) ∈ s.servers q ↔ s.serves q i = some v := by
  rw [State.servers, List.mem_filterMap]
  constructor
  · rintro ⟨j, -, h⟩
    obtain ⟨w, hw, same⟩ := Option.map_eq_some_iff.1 h
    obtain ⟨rfl, rfl⟩ := Prod.mk.inj same
    exact hw
  · intro h; exact ⟨i, by fin_cases i <;> decide, by rw [h]; rfl⟩

/-- The charger reads yes where a station reports yes (R58). -/
theorem resolved_charger_eq_one {s : State} : servedValue s.resolved.charger = 1 ↔ ∃ i, s.serves .charger i = some 1 := by
  show servedValue s.resolveCharger = 1 ↔ _
  unfold State.resolveCharger
  split
  next i v h =>
    have one : v = 1 := by have := List.find?_some h; simpa using this
    have mem := mem_servers.1 (List.mem_of_find?_eq_some h)
    exact ⟨fun _ => ⟨i, one ▸ mem⟩, fun _ => one⟩
  next h =>
    rw [List.find?_eq_none] at h
    have none : ¬ ∃ i, s.serves .charger i = some 1 := fun ⟨i, hi⟩ => by
      have := h _ (mem_servers.2 hi); simp at this
    refine ⟨fun yes => absurd ?_ none, fun ⟨i, hi⟩ => absurd ⟨i, hi⟩ none⟩
    split at yes
    next x hx =>
      obtain ⟨⟨i, v⟩, head, rfl⟩ := Option.map_eq_some_iff.1 hx
      have one : v = 1 := yes
      exact ⟨i, one ▸ mem_servers.1 (List.mem_of_mem_head? head)⟩
    next => cases yes

theorem Shrinks.serves_none {x y : State} (h : Shrinks x y) {q : Quantity} {i : Station} (hx : x.serves q i = none) :
    y.serves q i = none :=
  Option.eq_none_iff_forall_ne_some.2 fun v hv => by
    have served := h q i v hv
    rw [hx] at served; cases served

theorem Shrinks.speed {x y : State} (h : Shrinks x y) (unknown : x.resolved.speed = none) : y.resolved.speed = none := by
  obtain ⟨drive, wheel⟩ := resolved_speed_eq_none.1 unknown
  exact resolved_speed_eq_none.2 ⟨fun i => h.serves_none (drive i), fun i => h.serves_none (wheel i)⟩

theorem Shrinks.charge {x y : State} (h : Shrinks x y) (yes : servedValue y.resolved.charger = 1) :
    servedValue x.resolved.charger = 1 := by
  obtain ⟨i, hi⟩ := resolved_charger_eq_one.1 yes
  exact resolved_charger_eq_one.2 ⟨i, h _ i 1 hi⟩

/-! ### Parts that leave the conditions alone -/

section
variable {s x y : State}

/-- The served values and the marks of their two conditions stay. -/
def FedKept (x y : State) : Prop :=
  y.selector.served = x.selector.served ∧ y.selector.speedUnknown = x.selector.speedUnknown
    ∧ y.selector.chargeHolds = x.selector.chargeHolds

theorem FedKept.of_selector (h : y.selector = x.selector) : FedKept x y := by rw [FedKept, h]; exact ⟨rfl, rfl, rfl⟩

theorem Fed.next (h : Fed s x) (same : FedKept x y) (shrinks : Shrinks x y) : Fed s y := by
  obtain ⟨fit, speed, charge, speedSince, chargeSince⟩ := h
  obtain ⟨served, unknown, charges⟩ := same
  refine ⟨?_, ?_, ?_, ?_, ?_⟩
  · rw [ConditionsFit, served, unknown, charges]; exact fit
  · rw [served]; exact shrinks.speed ∘ speed
  · rw [served]; exact charge ∘ shrinks.charge
  · rw [unknown]; exact speedSince
  · rw [charges]; exact chargeSince

theorem EntryGoes.kept {i : Station} (h : EntryGoes s x i) (kept : Kept (x.peer i) (y.peer i))
    (queue : ∀ i ∈ y.isolation.queue, i ∈ x.isolation.queue) : EntryGoes s y i := by
  obtain ⟨alike, -, state⟩ := kept
  rcases h with h | ⟨gone, out⟩
  · exact .inl (h.trans alike)
  · have same : (y.peer i).state = (x.peer i).state := state (by rcases gone with h | h <;> rw [h] <;> rfl)
    exact .inr ⟨by rw [same]; exact gone, fun hi => out (queue i hi)⟩

theorem SameRoles.trans {s x y : State} (h : SameRoles s x) (h' : SameRoles x y) : SameRoles s y := fun i =>
  (h' i).trans (h i)

/-- The invariant as a handling goes on. -/
theorem Inv.of_course (inv : Inv s x) (course : Course x y) (entries : ∀ i, EntryGoes s y i)
    (fed : s.station.riding = true → Fed s y) : Inv s y where
  table := course.table inv.table
  entries := entries
  queue := fun i hi => inv.queue i (course.queue i hi)
  line := by
    obtain ⟨-, degraded, fails, stuck⟩ := course.lineCounters
    rw [fails, degraded, stuck]; exact inv.line
  config := course.config.trans inv.config
  roles := inv.roles.trans fun i => by rw [course.start_but_station]
  riding := course.riding.trans inv.riding
  held := by
    rw [course.start_but_station]
    exact inv.held
  fed := fed

/-- The invariant where only entries change. -/
theorem Inv.next (inv : Inv s x) (course : Course x y) (sel : y.selector = x.selector)
    (entries : ∀ i, EntryGoes s y i) (shrinks : Shrinks x y) : Inv s y :=
  inv.of_course course entries fun riding => (inv.fed riding).next (.of_selector sel) shrinks

section
variable (course : Course x y) (sel : y.selector = x.selector) (same : ∀ i, Kept (x.peer i) (y.peer i))

include course same in
theorem Shrinks.of_kept : Shrinks x y :=
  .of_entries course.own_station course.own fun i h => by
    obtain ⟨⟨trusted, -⟩, published, -⟩ := same i
    exact ⟨trusted.symm.trans h, published⟩

include course sel same

theorem Inv.kept (inv : Inv s x) : Inv s y :=
  inv.next course sel (fun i => (inv.entries i).kept (same i) course.queue) (.of_kept course same)

theorem Cond.now_kept (k : Cond) : k.now y = k.now x :=
  (Steady.of_course course sel).now_of_alike (fun i => (same i).1) k

/-- A part in which nothing changes that a condition is read from. -/
theorem Goes.kept {D : Cond → Prop} (acts : Inv s x → ActsTo s D x y) : Goes s D x y := fun inv =>
  ⟨inv.kept course sel same, ⟨.of_eq (Cond.now_kept course sel same), acts inv⟩, .of_selector sel⟩

theorem Goes.quiet (bare : ∀ c, c ≠ 3 → y.bare c = x.bare c) (fills : Fills x y) : Goes s noCond x y :=
  .kept course sel same fun _ => .still bare fills course.beaconCount fun _ h => h.1

end

theorem Works.kept (h : Works x y) (i : Station) : Kept (x.peer i) (y.peer i) := by
  rw [State.peer, State.peer, h.peers]; exact .refl _

theorem Goes.works {D : Cond → Prop} (h : Works x y) (acts : Inv s x → ActsTo s D x y) : Goes s D x y :=
  .kept h.course h.selector h.kept acts

theorem Goes.still_works (h : Works x y) (bare : ∀ c, c ≠ 3 → y.bare c = x.bare c) (fills : Fills x y) :
    Goes s noCond x y := .quiet h.course h.selector h.kept bare fills

/-! ### Presentations -/

/-- The presentation of one condition while it holds (R76). -/
theorem Goes.presentsOne {k : Cond} (some : ∀ a, k.now x = some a → y = x.present a) (none : k.now x = none → y = x) :
    Goes s (fun l => l = k) x y := by
  cases hk : k.now x with
  | none =>
    obtain rfl := none hk
    refine .works (.refl _) fun _ => .still (fun _ _ => rfl) (.refl _) rfl fun l ⟨hl, still, held⟩ => ?_
    have same : l.now y = l.now s := not_not.1 still
    rw [← same, hl, hk] at held; cases held
  | some a =>
    obtain rfl := some a hk
    have now : k.now (x.present a) = .some a := (Cond.now_kept (Works.present x a).course (Works.present x a).selector
      (Works.present x a).kept k).trans hk
    refine .works (.present x a) fun _ => .present (Cond.now_synthetic hk) (Cond.now_code hk) ?_ fun l h => h.1
    by_cases before : k.now s = .some a
    · exact .inl before
    · exact .inr fun h => before (h.symm.trans now)

theorem Goes.presentIf {k : Cond} {b : Bool} {a : Raise} (h : k.now x = raiseIf b a) :
    Goes s (fun l => l = k) x (x.presentIf b a) := by
  refine .presentsOne (fun c hc => ?_) fun hn => ?_
  · obtain ⟨hb, rfl⟩ := raiseIf_eq_some.1 (h.symm.trans hc)
    rw [State.presentIf, hb]; rfl
  · rw [State.presentIf, raiseIf_eq_none.1 (h.symm.trans hn)]; rfl

end

end Sys2Proof.Machine
end

section
/-! The own expiry of the peer view: entries that age, are lost or muted, or begin their probation. -/

namespace Sys2Proof.Machine

/-! ### A peer that goes down -/

theorem untrusted_of_down {x : EntryState} (h : x.down = true) : x.trusted = false := by
  cases x <;> simp_all [EntryState.down, EntryState.trusted]

section
variable {B E : Cond → Prop} {P : Cond → Raise → Prop} {Q : Cond → Prop} {x y z : State}

theorem Acts.of_engine (h : y.engine = x.engine) (none : ∀ k, ¬ Q k) : Acts B E P Q x y :=
  .still (fun c _ => State.bare_of_engine h c) (.of_engine h) (by rw [h]) none

/-- Acts that present nothing. -/
theorem Acts.andThen (h : Acts B E P noCond x y) (h' : Acts B E P noCond y z) : Acts B E P noCond x z :=
  .trans h h' fun _ => .inl

/-- A condition that no longer holds ends its record where it held (R80). -/
theorem Acts.conditionNow_false {k : Cond} {a : Raise} (code : a.code = k.code) (held : Bool) (h : E k) :
    Acts B E P noCond x (x.conditionNow held false a) := by
  cases held with
  | false => exact .of_engine rfl fun _ h => h
  | true =>
    rw [show x.conditionNow true false a = x.conditionGone k.code from congrArg x.conditionGone code]
    exact .gone h fun _ h => h

/-- PEER-POSTURE as no level is adopted any more (R53). -/
theorem Acts.adoptLevel_none {i : Station} (h : E (.posture i)) : Acts B E P noCond x (x.adoptLevel i none) := by
  cases hr : x.record (38 + i.val) with
  | none => rw [State.adoptLevel_absent_none hr]; exact .of_engine rfl fun _ h => h
  | some r =>
    rw [State.adoptLevel_present_none hr]
    split
    · exact .gone h fun _ h => h
    · exact .of_engine rfl fun _ h => h

end

section
variable {s x : State} {i : Station} {e' : PeerEntry}

/-- The entry of `i` in a state that differs from `x` by the change of that entry. -/
theorem State.updatePeer_peer (j : Station) : (x.updatePeer i e').peer j = if j = i then e' else x.peer j := by
  rw [peer, updatePeer_peers, Six.get_set]; rfl

theorem Steady.updatePeer (x : State) (i : Station) (e' : PeerEntry) : Steady x (x.updatePeer i e') :=
  .of_course (.updatePeer x i e') ((Works.updatePeer x i e').selector.trans (x.entered_selector i e'))

variable (roles : SameRoles s x) (config : x.config = s.config) (alike : Alike (s.peer i) (x.peer i))
  (down : e'.state.down = true)

include roles config alike in
/-- The conditions of the entry are still those of `s`. -/
theorem not_left_of_alike : ¬ Left s x (.down i) ∧ ¬ Left s x (.posture i) ∧ ¬ Left s x (.mismatch i) := by
  obtain ⟨d, p, m⟩ := Cond.now_of_alike alike roles config
  exact ⟨fun h => h d, fun h => h p, fun h => h m⟩

include roles config alike in
theorem Onward.updatePeer : Onward s x (x.updatePeer i e') := by
  obtain ⟨d, p, m⟩ := not_left_of_alike roles config alike
  have steady := Steady.updatePeer x i e'
  have other : ∀ j, j ≠ i → Alike (x.peer j) ((x.updatePeer i e').peer j) := fun j hj => by
    rw [State.updatePeer_peer, if_neg hj]; exact .refl _
  intro k
  by_cases same : k.now (x.updatePeer i e') = k.now x
  · simp only [Begun, Left, same]; exact ⟨id, id⟩
  · have still : ¬ Left s x k := by
      cases k with
      | down j =>
        by_cases hj : j = i
        · exact hj ▸ d
        · exact absurd (Cond.now_of_alike (other j hj) steady.roles steady.config).1 same
      | posture j =>
        by_cases hj : j = i
        · exact hj ▸ p
        · exact absurd (Cond.now_of_alike (other j hj) steady.roles steady.config).2.1 same
      | mismatch j =>
        by_cases hj : j = i
        · exact hj ▸ m
        · exact absurd (Cond.now_of_alike (other j hj) steady.roles steady.config).2.2 same
      | _ => exact (same (steady.now fun h => h)).elim
    exact ⟨fun h => absurd h still, fun h => absurd h.1 still⟩

include down in
/-- The conditions of an entry that has gone down (R50, R52, R54). -/
theorem now_of_down : (Cond.down i).now (x.updatePeer i e') = some (peerDownOf x i e'.downCause)
    ∧ (Cond.posture i).now (x.updatePeer i e') = none ∧ (Cond.mismatch i).now (x.updatePeer i e') = none := by
  have entry : (x.updatePeer i e').peer i = e' := by rw [State.updatePeer_peer, if_pos rfl]
  have untrusted := untrusted_of_down down
  refine ⟨?_, ?_, ?_⟩
  · rw [Cond.now, entry, down, peerDownOf_congr (Steady.updatePeer x i e').roles]; rfl
  · rw [Cond.now, entry, ← adopted_eq, adopted_of_untrusted untrusted]; rfl
  · rw [Cond.now, entry, ← mismatch_eq, PeerEntry.mismatch, untrusted]; rfl

include roles config alike down in
/-- PEER-DOWN begins or changes its cause where it is raised (R50). -/
theorem begun_of_raise (h : ¬((x.peer i).state.down = true ∧ (x.peer i).downCause = e'.downCause)) :
    Begun s (x.updatePeer i e') (.down i) := by
  obtain ⟨now, -, -⟩ := now_of_down (x := x) (i := i) down
  refine ⟨fun same => h ?_, by rw [now]; rfl⟩
  rw [now, ← (Cond.now_of_alike alike roles config).1] at same
  obtain ⟨hd, ha⟩ := raiseIf_eq_some.1 same.symm
  exact ⟨hd, by simpa [peerDownOf] using ha⟩

include roles config alike down in
/-- A peer goes down: PEER-DOWN is raised where it does not hold with that cause, and the other conditions of the entry
end (R50, R53, R54). -/
theorem Stretch.goesDown : Stretch s noCond x (x.updatePeer i e') := by
  obtain ⟨-, posture, mismatch⟩ := now_of_down (x := x) (i := i) down
  have untrusted := untrusted_of_down down
  have gone : ∀ k : Cond, k.now (x.updatePeer i e') = none → MayEnd s (x.updatePeer i e') k := fun k hk => by
    by_cases before : k.now s = none
    · exact .inl before
    · exact .inr fun same => before (same.symm.trans hk)
  refine ⟨.updatePeer roles config alike, .mono ?_ (fun _ => id) (fun _ => id) (fun _ _ => id) fun _ h => h.1⟩
  have first : Judged s (x.updatePeer i e') x (x.downEvaluated i e') := by
    refine Acts.andThen (.of_engine (x.entered_engine i e') fun _ h => h) ?_
    rw [State.downEvaluated, State.evalDown, if_pos down]
    split
    · exact .of_engine rfl fun _ h => h
    next h =>
      refine .raise (k := .down i) rfl (begun_of_raise roles config alike down fun both => h ?_) fun _ h => h
      rw [both.1, decide_eq_true both.2]; rfl
  have second : Judged s (x.updatePeer i e') (x.downEvaluated i e') (x.postureEvaluated i e') := by
    rw [State.postureEvaluated, State.evalPosture, adopted_of_untrusted untrusted]
    split
    · exact .of_engine rfl fun _ h => h
    · exact Acts.adoptLevel_none (gone _ posture)
  have third : Judged s (x.updatePeer i e') (x.postureEvaluated i e') (x.mismatchEvaluated i e') := by
    have none : e'.mismatch (x.postureEvaluated i e').config.period = false := by rw [PeerEntry.mismatch, untrusted]; rfl
    rw [State.mismatchEvaluated, State.evalMismatch, none]
    exact Acts.conditionNow_false (k := .mismatch i) rfl _ (gone _ mismatch)
  refine ((first.andThen second).andThen third).andThen (.still (fun c hc => ?_) (.compareAtTrust _ _ _) ?_ fun _ h => h)
  · exact State.compareAtTrust_bare _ _ _ hc
  · exact (Works.compareAtTrust ..).counts.1

end

end Sys2Proof.Machine
end

section
/-! The own expiry of the peer view, entry by entry. -/

namespace Sys2Proof.Machine

section
variable {s x : State} {i : Station}

/-- The sources shrink as an entry goes down. -/
theorem Shrinks.updatePeer {e' : PeerEntry} (h : e'.state.trusted = false) : Shrinks x (x.updatePeer i e') := by
  refine .of_entries (Course.updatePeer x i e').own_station (Course.updatePeer x i e').own fun j hj => ?_
  rw [State.updatePeer_peer] at hj ⊢
  split at hj
  next => rw [h] at hj; cases hj
  next ne => rw [if_neg ne]; exact ⟨hj, rfl⟩

/-- An entry that is neither LOST nor MUTED is as in `s`. -/
theorem EntryGoes.alike (h : EntryGoes s x i) (lost : (x.peer i).state ≠ .lost) (muted : (x.peer i).state ≠ .muted) :
    Alike (s.peer i) (x.peer i) := h.resolve_right fun gone => gone.1.elim lost muted

/-- The other entries as one of them changes. -/
theorem EntryGoes.updatePeer {e' : PeerEntry} {j : Station} (h : EntryGoes s x j) (hj : j ≠ i) :
    EntryGoes s (x.updatePeer i e') j := by
  refine h.kept (y := x.updatePeer i e') ?_ fun k hk => ?_
  · rw [State.updatePeer_peer, if_neg hj]; exact .refl _
  · rw [(x.updatePeer_queue i e').1] at hk; exact hk

/-- A trusted peer is lost or muted. -/
theorem Goes.goesDown (waits : ∀ i ∈ s.isolation.queue, (s.peer i).state.down = true) {e' : PeerEntry}
    (trusted : (x.peer i).state.trusted = true) (gone : e'.state = .lost ∨ e'.state = .muted) :
    Goes s noCond x (x.updatePeer i e') := fun inv => by
  have down : e'.state.down = true := by rcases gone with h | h <;> rw [h] <;> rfl
  have alike : Alike (s.peer i) (x.peer i) := (inv.entries i).alike (fun h => by rw [h] at trusted; cases trusted)
    fun h => by rw [h] at trusted; cases trusted
  have out : i ∉ x.isolation.queue := fun hi => by
    have h := waits i (inv.queue i hi)
    rw [← alike.2.1, down_of_trusted trusted] at h; cases h
  have queue := (x.updatePeer_queue i e').1
  have steady := Steady.updatePeer x i e'
  refine ⟨inv.next (Course.updatePeer x i e') steady.selector (fun j => ?_) (.updatePeer (untrusted_of_down down)), .goesDown inv.roles inv.config alike down, .of_selector steady.selector⟩
  by_cases hj : j = i
  · subst hj
    refine .inr ⟨?_, by rw [queue]; exact out⟩
    rw [State.updatePeer_peer, if_pos rfl]; exact gone
  · exact (inv.entries j).updatePeer hj

/-- The peer in probation is muted again and leaves the rejoin queue (R149). -/
theorem Goes.failProbation (probation : (x.peer i).state = .probation) : Goes s noCond x (x.failProbation i) := fun inv => by
  let e' := (x.peer i).muted ((x.peer i).muteReason.getD .score) x.config.muteHold
  let y := x.updatePeer i e'
  have alike : Alike (s.peer i) (x.peer i) := (inv.entries i).alike (by rw [probation]; decide) (by rw [probation]; decide)
  have steady := Steady.updatePeer x i e'
  have queue := (x.updatePeer_queue i e').1
  have left : ∀ j ∈ (y.endProbation i).isolation.queue, j ∈ x.isolation.queue ∧ j ≠ i := fun j hj => by
    obtain ⟨mem, ne⟩ := List.mem_filter.1 hj
    rw [queue] at mem
    exact ⟨mem, bne_iff_ne.1 ne⟩
  refine ⟨inv.next (Course.failProbation x i) steady.selector (fun j => ?_) ?_, ?_, .of_selector steady.selector⟩
  · have entry : (y.endProbation i).peer j = if j = i then e' else x.peer j := State.updatePeer_peer j
    by_cases hj : j = i
    · subst hj
      refine .inr ⟨.inr ?_, fun hj => (left j hj).2 rfl⟩
      show ((y.endProbation j).peer j).state = .muted
      rw [entry, if_pos rfl]; rfl
    · refine (inv.entries j).kept (y := y.endProbation i) ?_ fun k hk => (left k hk).1
      rw [entry, if_neg hj]; exact .refl _
  · exact (Shrinks.updatePeer (i := i) (e' := e') rfl).trans (.of_entries rfl rfl fun j h => ⟨h, rfl⟩)
  · refine Stretch.and_then (Stretch.goesDown (e' := e') inv.roles inv.config alike rfl) ?_
    exact .still (fun k => by cases k <;> rfl) (fun _ _ => rfl) (.of_engine rfl) rfl

/-- An entry that is read as before. -/
theorem Goes.setPeer {e' : PeerEntry} (h : Kept (x.peer i) e') : Goes s noCond x (x.setPeer i e') := by
  refine .quiet (.setPeer x i e') rfl (fun j => ?_) (fun _ _ => rfl) (.of_engine rfl)
  rw [State.setPeer_peer]
  split
  next hj => exact hj ▸ h
  next => exact .refl _

/-! ### One own period of an entry -/

theorem Kept.of_score {e : PeerEntry} (h : e.state.trusted = true) (n : Nat) :
    Kept e (byThresholds { e with score := n }) :=
  ⟨alike_scored h n, rfl, fun h' => by rw [h] at h'; cases h'⟩

/-- Age and heard mark are no part of what is read. -/
theorem Kept.aged (e : PeerEntry) : Kept e e.aged := by
  unfold PeerEntry.aged
  split
  · exact ⟨⟨rfl, rfl, rfl, rfl, rfl, rfl⟩, rfl, fun _ => rfl⟩
  · exact ⟨⟨rfl, rfl, rfl, rfl, rfl, rfl⟩, rfl, fun _ => rfl⟩

theorem Kept.trans {a b c : PeerEntry} (h : Kept a b) (h' : Kept b c) : Kept a c := by
  obtain ⟨alike, published, state⟩ := h
  obtain ⟨alike', published', state'⟩ := h'
  exact ⟨alike.trans alike', published'.trans published, fun untrusted =>
    (state' (alike.1.trans untrusted)).trans (state untrusted)⟩

theorem Kept.thresholds {e : PeerEntry} (h : e.state.trusted = true) : Kept e e.thresholds := by
  rw [thresholds_eq]; exact .of_score h e.score

theorem Goes.countSelf : Goes s noCond x (x.countSelf i) := by
  unfold State.countSelf
  simp only
  split
  · exact .setPeer ⟨⟨rfl, rfl, rfl, rfl, rfl, rfl⟩, rfl, fun _ => rfl⟩
  · exact .refl s x

section
variable (waits : ∀ i ∈ s.isolation.queue, (s.peer i).state.down = true)
include waits

theorem Goes.mute (r : MuteReason) (trusted : (x.peer i).state.trusted = true) : Goes s noCond x (x.mute i r) :=
  .goesDown waits trusted (.inr rfl)

theorem Goes.reportScore : Goes s noCond x (x.reportScore i) := by
  unfold State.reportScore
  simp only
  split
  next h => exact .mute waits _ h.2.1
  next => exact .refl s x

theorem Goes.reportSelfContained : Goes s noCond x (x.reportSelfContained i) := by
  unfold State.reportSelfContained
  simp only
  split
  next h => exact .mute waits _ h.2.1
  next => exact .refl s x

/-- The score of a trusted entry changes (R47). -/
theorem Goes.updateScored {e' : PeerEntry} (trusted : (x.peer i).state.trusted = true) (kept : Kept (x.peer i) e') :
    Goes s noCond x (x.updateScored i e') := by
  have whole : Kept (x.peer i) e'.thresholds := kept.trans (.thresholds (kept.1.1.trans trusted))
  rw [State.updateScored, State.updatePeer_of_alike whole.1]
  exact (Goes.setPeer whole).and_then (.reportScore waits)

theorem Goes.crossCharge : Goes s noCond x (x.crossCharge i) := by
  unfold State.crossCharge
  simp only
  split
  next h => exact .updateScored waits h ⟨⟨rfl, rfl, rfl, rfl, rfl, rfl⟩, rfl, fun _ => rfl⟩
  next => exact .refl s x

theorem Goes.agePeer : Goes s noCond x (x.agePeer i) := by
  unfold State.agePeer
  simp only
  split
  next h => exact .updateScored waits (by rw [h]; rfl) (.aged _)
  next h => exact .updateScored waits (by rw [h]; rfl) (.aged _)
  next h =>
    have aged := Kept.aged (x.peer i)
    rw [State.updatePeer_of_alike aged.1]
    split
    · refine (Goes.setPeer aged).and_then (.failProbation ?_)
      rw [State.setPeer_peer, if_pos rfl, aged.2.2 (by rw [h]; rfl)]; exact h
    · exact .setPeer aged
  next => exact .refl s x

theorem Goes.losePeer (trusted : (x.peer i).state.trusted = true) : Goes s noCond x (x.losePeer i) :=
  .goesDown waits trusted (.inl rfl)

theorem Goes.selfPeriod (later : List Later) : Goes s noCond x (x.selfPeriod later i) := by
  unfold State.selfPeriod
  simp only
  split
  · exact .countSelf
  · exact Goes.countSelf.and_then (.reportSelfContained waits)

theorem Goes.peerPeriod (later : List Later) : Goes s noCond x (x.peerPeriod later i) := by
  refine (Goes.agePeer (i := i) waits).and_then ?_
  unfold State.peerPeriod
  simp only
  split
  next due =>
    split
    · exact .refl s _
    · exact .losePeer waits (Bool.and_eq_true_iff.1 (Bool.and_eq_true_iff.1 due).1).2
  next => exact .selfPeriod waits later

end

end

theorem Goes.peersPeriod {s : State} (waits : ∀ i ∈ s.isolation.queue, (s.peer i).state.down = true) (later : List Later)
    (x : State) : Goes s noCond x (x.peersPeriod later) := by
  unfold State.peersPeriod
  split
  · exact .foldl (fun _ _ => .peerPeriod waits later) _ x
  · exact .refl s x

end Sys2Proof.Machine
end

section
/-! The own expiry of the isolation unit and of the presentations. -/

namespace Sys2Proof.Machine

/-! ### The isolation unit -/

section
variable {s : State} (x : State) (later : List Later)

theorem Goes.setIsolation {u : Isolation} (susp : u.suspended = x.isolation.suspended)
    (queue : ∀ i ∈ u.queue, i ∈ x.isolation.queue) : Goes s noCond x (x.setIsolation u) :=
  .quiet (.setIsolation x susp queue) rfl (fun _ => .refl _) (fun _ _ => rfl) (.of_engine rfl)

theorem Goes.compareQuorum : Goes s noCond x x.compareQuorum :=
  .still_works (.compareQuorum x) (fun _ hc => x.compareQuorum_bare hc) (.compareQuorum x)

theorem Goes.agePlaces : Goes s noCond x (x.agePlaces later) :=
  (Goes.setIsolation x (u := { x.isolation with
    cease := ageCease later x.isolation.cease, readmit := ageReadmit later x.isolation.readmit }) rfl
    fun _ h => h).and_then (.compareQuorum _)

theorem Kept.countHold (e : PeerEntry) : Kept e e.countHold := by
  unfold PeerEntry.countHold
  split
  · exact ⟨⟨rfl, rfl, rfl, rfl, rfl, rfl⟩, rfl, fun _ => rfl⟩
  · exact .refl e

theorem Goes.countHolds : Goes s noCond x x.countHolds := by
  unfold State.countHolds
  split
  · refine .quiet (.setPeers x _) rfl (fun i => ?_) (fun _ _ => rfl) (.of_engine rfl)
    rw [State.peer, State.peer, State.setPeers_peers, Six.get_map]; exact .countHold _
  · exact .refl s x

theorem unread_blind : Blind fun r => { r with unread := true } := ⟨fun _ => rfl, fun _ _ => rfl⟩

theorem Goes.rejoinTimedOut : Goes s noCond x x.rejoinTimedOut := by
  let u := x.setIsolation { x.isolation with own := .isolated, rejoinTimer := none, readmit := [] }
  refine (Goes.setIsolation x (u := u.isolation) rfl fun _ h => h).and_then ?_
  refine .still_works (EngineStep.updateRecord u 3 (g := fun r => { r with unread := true }) fun _ => rfl).works
    (fun c hc => ?_) (.updateRecord u 3 unread_blind)
  exact (u.updateRecord_bare 3 c unread_blind).trans (if_neg hc)

theorem Goes.countRejoin : Goes s noCond x (x.countRejoin later) := by
  have counted : ∀ n, Goes s noCond x (x.setIsolation { x.isolation with rejoinTimer := n }) := fun n =>
    .setIsolation x rfl fun _ h => h
  unfold State.countRejoin
  split
  · simp only
    split
    · exact (counted _).and_then (.rejoinTimedOut _)
    · exact counted _
  · exact .refl s x

theorem Goes.giveReadmit (i : Station) : Goes s noCond x (x.giveReadmit i) := by
  have same : ∀ j, (x.giveReadmit i).peer j = x.peer j := fun j => by unfold State.giveReadmit; split <;> rfl
  refine .quiet (.giveReadmit x i) ?_ (fun j => by rw [same]; exact .refl _) (fun c _ => ?_) (.of_engine (x.giveReadmit_engine i))
  · unfold State.giveReadmit; split <;> rfl
  · exact State.bare_of_engine (x.giveReadmit_engine i) c

theorem Goes.retryOwed : Goes s noCond x x.retryOwed := .foldl (fun x i => .giveReadmit x i) _ x

end

/-! ### The presentations -/

theorem Goes.weaken {s x y : State} {D D' : Cond → Prop} (h : Goes s D x y) (le : ∀ k, D' k → D k) : Goes s D' x y :=
  (Goes.refl s x).trans h fun k hk => .inr (le k hk)

theorem Goes.next {s x y z : State} {D D' : Cond → Prop} (h : Goes s D x y) (h' : Goes s D' y z) :
    Goes s (fun k => D k ∨ D' k) x z := h.trans h' fun _ => id

/-- Parts that follow one another, one to each of a list. -/
theorem Goes.foldl_union {α : Type} {s : State} {f : State → α → State} {D : α → Cond → Prop}
    (h : ∀ x a, Goes s (D a) x (f x a)) (l : List α) : ∀ x, Goes s (fun k => ∃ a ∈ l, D a k) x (l.foldl f x) := by
  induction l with
  | nil => exact fun x => (Goes.refl s x).weaken fun k ⟨a, h, _⟩ => nomatch h
  | cons a l ih =>
    refine fun x => (h x a).trans (ih _) fun k ⟨b, hb, hk⟩ => ?_
    rcases List.mem_cons.1 hb with rfl | hb
    · exact .inl hk
    · exact .inr ⟨b, hb, hk⟩

/-- The conditions of one entry. -/
def Cond.ofEntry (i : Station) (k : Cond) : Prop := k = down i ∨ k = posture i ∨ k = mismatch i

theorem Goes.presentPosture {s : State} (x : State) (i : Station) :
    Goes s (fun k => k = .posture i) x (x.presentPosture i) := by
  refine .presentsOne (fun a ha => ?_) fun hn => ?_
  · obtain ⟨l, hl, rfl⟩ := Option.map_eq_some_iff.1 ha
    rw [← adopted_eq] at hl
    rw [State.presentPosture, hl]; rfl
  · have none : (x.peer i).adopted = none := by rw [adopted_eq]; exact Option.map_eq_none_iff.1 hn
    rw [State.presentPosture, none]

theorem Goes.presentPeer {s : State} (x : State) (i : Station) : Goes s (Cond.ofEntry i) x (x.presentPeer i) := by
  let d := x.presentIf (x.peer i).state.down (x.downRaise i (x.peer i).downCause)
  let p := d.presentPosture i
  have works : Works x p := (Works.presentIf x _ _).trans (.presentPosture d i)
  have first : Goes s (fun k => k = .down i) x d := .presentIf rfl
  have third : Goes s (fun k => k = .mismatch i) p (p.presentIf ((x.peer i).mismatch p.config.period) (mismatchRaise i)) := by
    refine .presentIf ?_
    rw [Cond.now, State.peer, works.peers, ← mismatch_eq]; rfl
  refine ((first.next (.presentPosture d i)).next third).weaken fun k hk => ?_
  rcases hk with rfl | rfl | rfl
  · exact .inl (.inl rfl)
  · exact .inl (.inr rfl)
  · exact .inr rfl

theorem Goes.presentPeers {s : State} (x : State) : Goes s Cond.isEntry x x.presentPeers := by
  refine (Goes.foldl_union (D := Cond.ofEntry) (fun x i => Goes.presentPeer x i) stations x).weaken fun k hk => ?_
  have all : ∀ i : Station, i ∈ stations := by decide
  cases k with
  | down i => exact ⟨i, all i, .inl rfl⟩
  | posture i => exact ⟨i, all i, .inr (.inl rfl)⟩
  | mismatch i => exact ⟨i, all i, .inr (.inr rfl)⟩
  | _ => exact absurd hk (fun h => h)

/-- The conditions of the line interface. -/
def Cond.isLine : Cond → Prop
  | txFail | degraded | stuck => True
  | _ => False

theorem Goes.presentLine {s : State} (x : State) : Goes s Cond.isLine x x.presentLine := by
  let u := x.presentIf (decide (8 ≤ x.line.txFailures)) txFailRaise
  let v := u.presentIf u.line.degraded degradedRaise
  have first : Goes s (fun k => k = .txFail) x u := .presentIf rfl
  have second : Goes s (fun k => k = .degraded) u v := .presentIf rfl
  have third : Goes s (fun k => k = .stuck) v (v.presentIf (decide (v.line.stuck ≠ .clear)) stuckRaise) := .presentIf rfl
  refine ((first.next second).next third).weaken fun k hk => ?_
  cases k with
  | txFail => exact .inl (.inl rfl)
  | degraded => exact .inl (.inr rfl)
  | stuck => exact .inr rfl
  | _ => exact absurd hk (fun h => h)

/-- The conditions of start control. -/
def Cond.isRole : Cond → Prop
  | missing | conflict => True
  | _ => False

theorem Goes.presentRoles {s : State} (x : State) (riding : x.station.riding = true) :
    Goes s Cond.isRole x x.presentRoles := by
  let u := x.presentIf x.start.missingHeld roleMissingRaise
  have works : Works x u := .presentIf x _ _
  have first : Goes s (fun k => k = .missing) x u := .presentIf (by rw [Cond.now, riding]; rfl)
  have second : Goes s (fun k => k = .conflict) u (u.presentIf u.start.conflictHeld roleConflictRaise) :=
    .presentIf (by rw [Cond.now, works.riding, riding]; rfl)
  have whole : x.presentRoles = u.presentIf u.start.conflictHeld roleConflictRaise := by
    rw [State.presentRoles, riding]; rfl
  rw [whole]
  refine (first.next second).weaken fun k hk => ?_
  cases k with
  | missing => exact .inl rfl
  | conflict => exact .inr rfl
  | _ => exact absurd hk (fun h => h)

/-- The conditions of the selector. -/
def Cond.isSelector : Cond → Prop
  | disputed | speedUnknown | brake | charge => True
  | _ => False

theorem Goes.presentSelector {s : State} (x : State) (riding : x.station.riding = true) :
    Goes s Cond.isSelector x x.presentSelector := by
  let u := x.presentIf (x.selector.speedDisputed || x.selector.voltageDisputed) disputedRaise
  let v := u.presentIf u.selector.speedUnknown speedUnknownRaise
  let w := v.presentIf v.selector.brakeHolds brakeThrottleRaise
  have ridingU : u.station.riding = true := (Works.presentIf x _ _).riding.trans riding
  have ridingV : v.station.riding = true := (Works.presentIf u _ _).riding.trans ridingU
  have ridingW : w.station.riding = true := (Works.presentIf v _ _).riding.trans ridingV
  have first : Goes s (fun k => k = .disputed) x u := .presentIf (by rw [Cond.now, riding]; rfl)
  have second : Goes s (fun k => k = .speedUnknown) u v := .presentIf (by rw [Cond.now, ridingU]; rfl)
  have third : Goes s (fun k => k = .brake) v w := .presentIf (by rw [Cond.now, ridingV]; rfl)
  have fourth : Goes s (fun k => k = .charge) w (w.presentIf w.selector.chargeHolds chargeInterlockRaise) :=
    .presentIf (by rw [Cond.now, ridingW]; rfl)
  refine (((first.next second).next third).next fourth).weaken fun k hk => ?_
  cases k with
  | disputed => exact .inl (.inl (.inl rfl))
  | speedUnknown => exact .inl (.inl (.inr rfl))
  | brake => exact .inl (.inr rfl)
  | charge => exact .inr rfl
  | _ => exact absurd hk (fun h => h)

end Sys2Proof.Machine
end

section
/-! The own expiry of the quantity selector. -/

namespace Sys2Proof.Machine

/-! ### Conditions that are found to hold or not -/

section
variable {B E : Cond → Prop} {P : Cond → Raise → Prop} {x : State} {k : Cond} {a : Raise} {held now : Bool}

/-- A condition begins or ends, where the judging predicates allow it. -/
theorem Acts.conditionNow (code : a.code = k.code) (begins : held = false → now = true → B k)
    (ends : held = true → now = false → E k) : Acts B E P noCond x (x.conditionNow held now a) := by
  cases now with
  | false => cases held with
    | false => exact .of_engine rfl fun _ h => h
    | true => exact Acts.conditionNow_false code true (ends rfl rfl)
  | true => cases held with
    | false => exact .raise code (begins rfl rfl) fun _ h => h
    | true => exact .of_engine rfl fun _ h => h

theorem Acts.checkCondition (syn : Synthetic a) (code : a.code = k.code) (begins : held = false → now = true → B k)
    (stays : now = true → P k a) (ends : held = true → now = false → E k) :
    Acts B E P noCond x (x.checkCondition held now a) := by
  cases now with
  | false =>
    cases held with
    | false => exact .of_engine rfl fun _ h => h
    | true => exact Acts.conditionNow_false code true (ends rfl rfl)
  | true =>
    cases held with
    | false => exact .raise code (begins rfl rfl) fun _ h => h
    | true => exact .present syn code (stays rfl) fun _ h => h.elim

end

section
variable {s y : State} {k : Cond}

/-- A condition that does not hold at `y` may have ended. -/
theorem ended_of_none (h : k.now y = none) : k.now s = none ∨ Left s y k := by
  by_cases before : k.now s = none
  · exact .inl before
  · exact .inr fun same => before (same.symm.trans h)

/-- A condition that holds at `y` may be presented. -/
theorem shown_of_some {a : Raise} (h : k.now y = some a) : k.now s = some a ∨ Left s y k := by
  by_cases before : k.now s = some a
  · exact .inl before
  · exact .inr fun same => before (same.symm.trans h)

theorem begun_of_none {a : Raise} (h : k.now y = some a) (before : k.now s = none) : Begun s y k :=
  ⟨by rw [Left, h, before]; exact nofun, by rw [h]; rfl⟩

/-- A condition that only begins. -/
theorem onward_of_begins {x : State} {b : State → Bool} {a : Raise} (hb : ∀ u, k.now u = raiseIf (b u) a)
    (since : b s = true → b x = true) (next : b x = true → b y = true) :
    (Left s x k → Left s y k) ∧ (Begun s x k → Begun s y k) := by
  simp only [Begun, Left, hb]
  cases hs : b s <;> cases hx : b x <;> cases hy : b y <;> simp_all [raiseIf]

/-- A condition that only ends. -/
theorem onward_of_ends {x : State} {b : State → Bool} {a : Raise} (hb : ∀ u, k.now u = raiseIf (b u) a)
    (since : b x = true → b s = true) (next : b y = true → b x = true) :
    (Left s x k → Left s y k) ∧ (Begun s x k → Begun s y k) := by
  simp only [Begun, Left, hb]
  cases hs : b s <;> cases hx : b x <;> cases hy : b y <;> simp_all [raiseIf]

/-- A condition that is what it was in `s`. -/
theorem onward_of_same {x : State} (h : k.now x = k.now s) : (Left s x k → Left s y k) ∧ (Begun s x k → Begun s y k) :=
  ⟨fun left => absurd h left, fun begun => absurd h begun.1⟩

theorem onward_of_kept {x : State} (h : k.now y = k.now x) : (Left s x k → Left s y k) ∧ (Begun s x k → Begun s y k) := by
  simp only [Begun, Left, h]; exact ⟨id, id⟩

end

/-- What is not read from the selector. -/
theorem Course.now {x y : State} (course : Course x y) (same : ∀ i, Kept (x.peer i) (y.peer i)) {k : Cond}
    (hk : ¬ k.isSelector) : k.now y = k.now x := by
  have steady : Steady (x.setSelector y.selector) y :=
    { line := (Steady.of_course (course.trans (.setSelector y (x := x.selector) course.own.symm)) rfl).line
      config := course.config
      start := course.start_but_station
      riding := course.riding
      selector := rfl }
  have noted : k.now (x.setSelector y.selector) = k.now x := by
    cases k with
    | disputed | speedUnknown | brake | charge => exact absurd trivial hk
    | _ => rfl
  exact (steady.now_of_alike (fun i => (same i).1) k).trans noted

/-! ### The resolution -/

theorem servedValue_eq_one {x : Option Served} : servedValue x = 1 ↔ ∃ c ∈ x, c.value = 1 := by
  cases x <;> simp [servedValue]

section
variable {s x : State}

/-- What a refresh makes of the two conditions in RUN and PARKING (R67, R69). -/
theorem State.refreshServed_marks (riding : x.station.riding = true) (fit : ConditionsFit x.selector) :
    x.refreshServed.selector.speedUnknown = x.resolved.speed.isNone
      ∧ x.refreshServed.selector.chargeHolds = decide (servedValue x.resolved.charger = 1) := by
  rw [refreshServed_selector (resolving_of_riding riding), refreshedSelector]
  split
  next same =>
    obtain ⟨speed, charge⟩ := fit
    rw [same]
    exact ⟨by rw [Bool.eq_iff_iff, speed, Option.isNone_iff_eq_none],
      by rw [Bool.eq_iff_iff, charge, decide_eq_true_iff, servedValue_eq_one]⟩
  next => rw [resolvedSelector, riding]; exact ⟨rfl, rfl⟩

theorem State.refreshServed_checks (res : resolving x.station) : ChecksKept x x.refreshServed := by
  rw [ChecksKept, refreshServed_selector res, refreshedSelector]
  split
  · exact ⟨rfl, rfl, rfl⟩
  · rw [resolvedSelector, recordServed_selector]; exact ⟨rfl, rfl, rfl⟩

theorem State.refreshServed_kept (res : resolving x.station) (i : Station) : Kept (x.peer i) (x.refreshServed.peer i) := by
  rw [State.peer, State.peer, refreshServed_peers res]; exact .refl _

theorem Fed.refreshServed (riding : x.station.riding = true) (fed : Fed s x) : Fed s x.refreshServed := by
  have res := resolving_of_riding riding
  obtain ⟨speed, charge⟩ := State.refreshServed_marks riding fed.fit
  have served := State.refreshServed_served res
  refine ⟨?_, fun h => by rw [served]; exact h, fun h => by rw [← served]; exact h, fun h => ?_, fun h => ?_⟩
  · rw [State.refreshServed_selector res]; exact conditionsFit_refreshedSelector riding fed.fit
  · rw [speed, fed.speed (fed.fit.1.1 (fed.speedSince h))]; rfl
  · rw [charge, decide_eq_true_iff] at h
    exact fed.chargeSince (fed.fit.2.2 (servedValue_eq_one.1 (fed.charge h)))

/-- In RUN and PARKING the served values are worked out again (R59, R67, R69). -/
theorem Stretch.refreshServed (riding : x.station.riding = true) (srides : s.station.riding = true) (fed : Fed s x) :
    Stretch s noCond x x.refreshServed := by
  have res := resolving_of_riding riding
  have riding' : x.refreshServed.station.riding = true := (Course.refreshServed x).riding.trans riding
  obtain ⟨speed, charge⟩ := State.refreshServed_marks riding fed.fit
  obtain ⟨speedKept, voltageKept, brakeKept⟩ := State.refreshServed_checks res
  have unknown : x.selector.speedUnknown = true → x.resolved.speed.isNone = true := fun h => by
    rw [fed.speed (fed.fit.1.1 h)]; rfl
  have charging : servedValue x.resolved.charger = 1 → x.selector.chargeHolds = true := fun h =>
    fed.fit.2.2 (servedValue_eq_one.1 (fed.charge h))
  have nowSpeed : Cond.speedUnknown.now x.refreshServed = raiseIf x.resolved.speed.isNone speedUnknownRaise := by
    rw [Cond.now, riding', speed]; rfl
  have nowCharge : Cond.charge.now x.refreshServed
      = raiseIf (decide (servedValue x.resolved.charger = 1)) chargeInterlockRaise := by
    rw [Cond.now, riding', charge]; rfl
  refine ⟨fun k => ?_, .mono (Q := noCond) ?_ (fun _ => id) (fun _ => id) (fun _ _ => id) fun _ h => h.1⟩
  · by_cases hk : k.isSelector
    · cases k with
      | disputed => exact onward_of_kept (by rw [Cond.now, Cond.now, riding', riding, speedKept, voltageKept])
      | brake => exact onward_of_kept (by rw [Cond.now, Cond.now, riding', riding, brakeKept])
      | speedUnknown =>
        refine onward_of_begins (b := fun u => u.station.riding && u.selector.speedUnknown) (fun _ => rfl) ?_ ?_
        · rw [srides, riding]; exact fed.speedSince
        · rw [riding, riding', speed]; exact unknown
      | charge =>
        refine onward_of_ends (b := fun u => u.station.riding && u.selector.chargeHolds) (fun _ => rfl) ?_ ?_
        · rw [srides, riding]; exact fed.chargeSince
        · rw [riding, riding', charge]; exact fun h => charging (of_decide_eq_true h)
      | _ => exact absurd hk (fun h => h)
    · exact onward_of_kept ((Course.refreshServed x).now (State.refreshServed_kept res) hk)
  · by_cases same : x.resolved = x.selector.served
    · rw [State.refreshServed_of_resolved same]; exact .of_engine rfl fun _ h => h
    · have whole : x.refreshServed = x.chargeNoted.conditionNow x.selector.chargeHolds
          (decide (servedValue x.resolved.charger = 1)) chargeInterlockRaise := by
        rw [State.refreshServed, if_neg same, State.resolveQuantities_riding_eq riding]
      have first : Judged s x.refreshServed x.speedNoted
          (x.speedNoted.conditionNow x.selector.speedUnknown x.resolved.speed.isNone speedUnknownRaise) := by
        refine Acts.conditionNow (k := .speedUnknown) rfl (fun held now => ?_) fun _ now => ?_
        · refine begun_of_none (nowSpeed.trans (by rw [now]; rfl)) ?_
          refine raiseIf_eq_none.2 ?_
          rw [srides, Bool.true_and]
          exact Bool.eq_false_iff.2 fun h => by rw [fed.speedSince h] at held; cases held
        · exact ended_of_none (nowSpeed.trans (by rw [now]; rfl))
      have second : Judged s x.refreshServed x.chargeNoted
          (x.chargeNoted.conditionNow x.selector.chargeHolds (decide (servedValue x.resolved.charger = 1))
            chargeInterlockRaise) := by
        refine Acts.conditionNow (k := .charge) rfl (fun held now => ?_) fun _ now => ?_
        · rw [charging (of_decide_eq_true now)] at held; cases held
        · exact ended_of_none (nowCharge.trans (by rw [now]; rfl))
      rw [← whole] at second
      have noted : x.chargeNoted.engine = (x.speedNoted.conditionNow x.selector.speedUnknown x.resolved.speed.isNone
          speedUnknownRaise).engine := rfl
      exact ((Acts.of_engine x.speedNoted_engine fun _ h => h).andThen first).andThen
        ((Acts.of_engine noted fun _ h => h).andThen second)

theorem Goes.refreshServed (res : resolving x.station) : Goes s noCond x x.refreshServed := fun inv => by
  have course := Course.refreshServed x
  have kept := State.refreshServed_kept res
  have entries : ∀ i, EntryGoes s x.refreshServed i := fun i => (inv.entries i).kept (kept i) course.queue
  refine ⟨inv.of_course course entries fun srides => ?_, ?_, State.refreshServed_checks res⟩
  · exact (inv.fed srides).refreshServed (inv.riding.trans srides)
  · cases riding : x.station.riding with
    | true => exact .refreshServed riding (inv.riding.symm.trans riding) (inv.fed (inv.riding.symm.trans riding))
    | false =>
      have engine := State.refreshServed_engine_of_still res riding
      refine .still (fun k => ?_) (fun c _ => State.bare_of_engine engine c) (.of_engine engine) (by rw [engine])
      by_cases hk : k.isSelector
      · cases k with
        | disputed | speedUnknown | brake | charge => simp only [Cond.now, course.riding, riding, Bool.false_and]
        | _ => exact absurd hk (fun h => h)
      · exact course.now kept hk

end

end Sys2Proof.Machine
end

section
/-! The own expiry of the quantity selector: freshness, cross-checks and BRAKE-THROTTLE. -/

namespace Sys2Proof.Machine

section
variable {s x y : State}

/-- The invariant where the selector changes and keeps its served values and their two marks. -/
theorem Inv.fedKept (inv : Inv s x) (course : Course x y) (same : ∀ i, Kept (x.peer i) (y.peer i)) (fed : FedKept x y) :
    Inv s y :=
  inv.of_course course (fun i => (inv.entries i).kept (same i) course.queue) fun riding =>
    (inv.fed riding).next fed (.of_kept course same)

/-- The selector is given anew, and one of its conditions, which is still what it was in `s`, may begin or end. -/
theorem Stretch.mark {k : Cond} {v : Selector} (others : ∀ l, l ≠ k → l.now (x.setSelector v) = l.now x)
    (same : k.now x = k.now s) (works : Works (x.setSelector v) y)
    (acts : Judged s y (x.setSelector v) y) : Stretch s noCond x y := by
  refine ⟨fun l => ?_, .mono (Q := noCond) ?_ (fun _ => id) (fun _ => id) (fun _ _ => id) fun _ h => h.1⟩
  · by_cases hl : l = k
    · exact onward_of_same (hl ▸ same)
    · exact onward_of_kept ((Cond.now_kept works.course works.selector works.kept l).trans (others l hl))
  · exact (Acts.of_engine (x := x) (y := x.setSelector v) rfl fun _ h => h).andThen acts

theorem Inv.mark {v : Selector} (own : v.own = x.selector.own) (fed : FedKept x (x.setSelector v))
    (works : Works (x.setSelector v) y) (inv : Inv s x) : Inv s y := by
  have course := (Course.setSelector x own).trans works.course
  refine inv.fedKept course (fun i => ?_) ?_
  · exact works.kept i
  · rw [FedKept, works.selector]; exact fed

/-! ### Freshness -/

theorem countFresh_quantity (v : OwnValue) : (countFresh v).quantity = v.quantity := by unfold countFresh; split <;> rfl

theorem ownValue_mapOwn (x : State) (q : Quantity) : (x.mapOwn countFresh).ownValue q = (x.ownValue q).map countFresh := by
  show (x.selector.own.map countFresh).find? _ = (x.selector.own.find? _).map countFresh
  rw [List.find?_map]
  exact congrArg (Option.map countFresh) (congrArg (List.find? · x.selector.own)
    (funext fun v => by rw [Function.comp, countFresh_quantity]))

theorem countFresh_serves (v : OwnValue) : (if (countFresh v).valid then some (countFresh v).value else none) =
    (if v.valid && (countFresh v).valid then some v.value else none) := by
  unfold countFresh
  cases h : v.valid <;> simp [h]

/-- An own value that is no longer fresh serves no more (R57). -/
theorem Shrinks.mapOwn (x : State) : Shrinks x (x.mapOwn countFresh) := by
  intro q i v h
  have own : (x.mapOwn countFresh).own = x.own := rfl
  rw [State.serves, own, ownValue_mapOwn] at h
  rw [State.serves]
  split at h
  next hi =>
    rw [if_pos hi]
    cases hv : x.ownValue q with
    | none => rw [hv] at h; exact h
    | some w =>
      rw [hv, Option.map_some] at h
      dsimp only at h ⊢
      rw [countFresh_serves] at h
      split at h
      next valid => rw [if_pos (Bool.and_eq_true_iff.1 valid).1]; exact h
      next => cases h
  next hi => rw [if_neg hi]; exact h

theorem Goes.mapOwn : Goes s noCond x (x.mapOwn countFresh) := fun inv =>
  ⟨{ table := inv.table, entries := inv.entries, queue := inv.queue, line := inv.line, config := inv.config
     roles := inv.roles, riding := inv.riding, held := inv.held
     fed := fun riding => (inv.fed riding).next ⟨rfl, rfl, rfl⟩ (.mapOwn x) },
   .still (fun k => by cases k <;> rfl) (fun _ _ => rfl) (.of_engine rfl) rfl, ⟨rfl, rfl, rfl⟩⟩

/-! ### The cross-checks -/

theorem State.setDisputed_eq (x : State) (a b : Bool) : ∃ d, x.setDisputed a b =
    (x.setSelector { x.selector with speedDisputed := a, voltageDisputed := b, band := d }).conditionNow
      (x.selector.speedDisputed || x.selector.voltageDisputed) (a || b) disputedRaise := by
  unfold setDisputed
  simp only
  split
  · exact ⟨x.selector.band, rfl⟩
  · exact ⟨_, rfl⟩

section
variable (riding : x.station.riding = true) (srides : s.station.riding = true)
  (speed : x.selector.speedDisputed = s.selector.speedDisputed)
  (voltage : x.selector.voltageDisputed = s.selector.voltageDisputed)
include riding srides speed voltage

/-- DISPUTED begins or ends with the disputed states (R65). -/
theorem Stretch.setDisputed (a b : Bool) (inv : Inv s x) : Inv s (x.setDisputed a b) ∧ Stretch s noCond x (x.setDisputed a b)
    ∧ (x.setDisputed a b).selector.brakeHolds = x.selector.brakeHolds := by
  obtain ⟨d, eq⟩ := x.setDisputed_eq a b
  let v : Selector := { x.selector with speedDisputed := a, voltageDisputed := b, band := d }
  let u := x.setSelector v
  let y := u.conditionNow (x.selector.speedDisputed || x.selector.voltageDisputed) (a || b) disputedRaise
  have works : Works u y := .conditionNow ..
  have now : Cond.disputed.now y = raiseIf (a || b) disputedRaise := by
    rw [Cond.now, works.riding, works.selector, show u.station.riding = true from riding]; rfl
  have before : Cond.disputed.now s = raiseIf (x.selector.speedDisputed || x.selector.voltageDisputed) disputedRaise := by
    rw [Cond.now, srides, speed, voltage]; rfl
  rw [eq]
  refine ⟨inv.mark (v := v) rfl ⟨rfl, rfl, rfl⟩ works, .mark (k := .disputed) (v := v) ?_ ?_ works ?_, by rw [works.selector]; rfl⟩
  · intro l hl
    cases l with
    | disputed => exact absurd rfl hl
    | _ => rfl
  · rw [before, Cond.now, riding]; rfl
  · refine Acts.conditionNow (k := .disputed) rfl (fun held begins => ?_) fun _ ends => ?_
    · exact begun_of_none (now.trans (by rw [begins]; rfl)) (before.trans (by rw [held]; rfl))
    · exact ended_of_none (now.trans (by rw [ends]; rfl))

end

theorem Goes.chargeOutlier (waits : ∀ i ∈ s.isolation.queue, (s.peer i).state.down = true) (o : Option Station) :
    Goes s noCond x (x.chargeOutlier o) := by
  unfold State.chargeOutlier
  split
  · split
    · exact .refl s x
    · exact .crossCharge waits
  · exact .refl s x

theorem Goes.setCounts (m n : Nat) :
    Goes s noCond x (x.setSelector { x.selector with speedCount := m, voltageCount := n }) := fun inv =>
  ⟨inv.fedKept (.setSelector x rfl) (fun _ => .refl _) ⟨rfl, rfl, rfl⟩,
    .still (fun k => by cases k <;> rfl) (fun _ _ => rfl) (.of_engine rfl) rfl, ⟨rfl, rfl, rfl⟩⟩

/-- The marks of the checks are those of `s`. -/
theorem Stretch.evaluateChecks (waits : ∀ i ∈ s.isolation.queue, (s.peer i).state.down = true) (later : List Later)
    (riding : x.station.riding = true) (checks : ChecksKept s x) (inv : Inv s x) :
    Inv s (x.evaluateChecks later) ∧ Stretch s noCond x (x.evaluateChecks later)
      ∧ (x.evaluateChecks later).selector.brakeHolds = s.selector.brakeHolds := by
  obtain ⟨speed, voltage, brake⟩ := checks
  have srides : s.station.riding = true := inv.riding.symm.trans riding
  let m := countPersistence x.selector.speedCount x.speedDisagrees
  let n := countPersistence x.selector.voltageCount x.voltageDisagrees
  let u := x.setSelector { x.selector with speedCount := m, voltageCount := n }
  let a := nowDisputed later .speed m x.selector.speedDisputed x.speedDisagrees
  let b := nowDisputed later .voltage n x.selector.voltageDisputed x.voltageDisagrees
  let v := u.setDisputed a b
  obtain ⟨invU, stretchU, -⟩ := Goes.setCounts (s := s) (x := x) m n inv
  obtain ⟨invV, stretchV, brakeV⟩ := Stretch.setDisputed (s := s) (x := u) riding srides speed voltage a b invU
  have courseV : Course x v := (Course.setSelector x (x := u.selector) rfl).trans (.setDisputed u a b)
  have charges : ∀ o p, Goes s noCond v ((v.chargeOutlier o).chargeOutlier p).refreshServed := fun o p => by
    have res : resolving ((v.chargeOutlier o).chargeOutlier p).station := resolving_of_riding
      ((courseV.trans ((Course.chargeOutlier v o).trans (.chargeOutlier _ p))).riding.trans riding)
    exact ((Goes.chargeOutlier waits o).and_then (.chargeOutlier waits p)).and_then (.refreshServed res)
  obtain ⟨invW, stretchW, -, -, brakeW⟩ := charges
    (if x.speedDisagrees && x.selector.speedDisputed then outlier speedsDisagree x.speedSources else none)
    (if x.voltageDisagrees && x.selector.voltageDisputed then outlier voltagesDisagree x.voltageSources else none) invV
  exact ⟨invW, (stretchU.and_then stretchV).and_then stretchW, (brakeW.trans brakeV).trans brake⟩

/-! ### BRAKE-THROTTLE -/

theorem Cond.now_setBrake {l : Cond} (n : Nat) (b : Bool) (hl : l ≠ .brake) :
    l.now (x.setSelector { x.selector with brakeCount := n, brakeHolds := b }) = l.now x := by
  cases l with
  | brake => exact absurd rfl hl
  | _ => rfl

/-- The brake-throttle count takes a new value, and the engine acts on BRAKE-THROTTLE. -/
theorem Stretch.setBrake (same : Cond.brake.now x = Cond.brake.now s) (n : Nat) (b : Bool)
    (works : Works (x.setBrake n b) y)
    (acts : Judged s y (x.setBrake n b) y) (inv : Inv s x) : Inv s y ∧ Stretch s noCond x y :=
  ⟨inv.mark (v := { x.selector with brakeCount := n, brakeHolds := b }) rfl ⟨rfl, rfl, rfl⟩ works,
    .mark (k := .brake) (v := { x.selector with brakeCount := n, brakeHolds := b })
      (fun _ => Cond.now_setBrake n b) same works acts⟩

theorem Stretch.countBrake (later : List Later) (riding : x.station.riding = true)
    (brake : x.selector.brakeHolds = s.selector.brakeHolds) (inv : Inv s x) :
    Inv s (x.countBrake later) ∧ Stretch s noCond x (x.countBrake later) := by
  have srides : s.station.riding = true := inv.riding.symm.trans riding
  have same : Cond.brake.now x = Cond.brake.now s := by rw [Cond.now, Cond.now, riding, srides, brake]
  have still : ∀ n b, Inv s (x.setBrake n b) ∧ Stretch s noCond x (x.setBrake n b) := fun n b =>
    Stretch.setBrake same n b (.refl _) (.of_engine rfl fun _ h => h) inv
  unfold State.countBrake
  split
  next =>
    split
    next =>
      refine Stretch.setBrake same 0 false (.conditionGone ..) (.gone (k := .brake) ?_ fun _ h => h) inv
      refine ended_of_none ?_
      rw [Cond.now]; exact raiseIf_eq_none.2 (Bool.and_false _)
    next => exact ⟨inv, .refl s x⟩
  next held =>
    split
    next =>
      simp only
      split
      next =>
        let n := addSat Config.brakeThrottlePeriods x.selector.brakeCount 1
        refine Stretch.setBrake (y := (x.setBrake n false).beginBrake) same n true (.raise _ _) (.raise (k := .brake) rfl ?_ fun _ h => h) inv
        refine begun_of_none (a := brakeThrottleRaise) ?_ (same.symm.trans ?_)
        · have works : Works (x.setBrake n true) (x.setBrake n false).beginBrake := .raise (x.setBrake n true) _
          rw [Cond.now, works.riding, works.selector]
          exact raiseIf_eq_some.2 ⟨by rw [Bool.and_eq_true]; exact ⟨riding, rfl⟩, rfl⟩
        · rw [Cond.now]
          exact raiseIf_eq_none.2 (by rw [Bool.eq_false_iff.2 held, Bool.and_false])
      next => exact still _ _
    next => exact still _ _

end

end Sys2Proof.Machine
end

section
/-! The own expiry from the counts to the beacon: what is presented, raised and ended. -/

namespace Sys2Proof.Machine

/-! ### The roles -/

theorem Stretch.weaken {s x y : State} {D D' : Cond → Prop} (h : Stretch s D x y)
    (le : ∀ k, D' k → (Cond.now s k).isSome = true → D k) : Stretch s D' x y :=
  ⟨h.1, .mono h.2 (fun _ => id) (fun _ => id) (fun _ _ => id) fun k ⟨d, still, held⟩ => ⟨le k d held, still, held⟩⟩

theorem roleMissing_synthetic : Synthetic roleMissingRaise := ⟨rfl, rfl, by decide, by decide⟩

theorem roleConflict_synthetic : Synthetic roleConflictRaise := ⟨rfl, rfl, by decide, by decide⟩

section
variable {s x z : State}

/-- A run of the population check, judged at a state whose conditions are those that it found (R10). -/
theorem Acts.populationCheck (missing : Cond.missing.now z = raiseIf (roleMissing x.start.population) roleMissingRaise)
    (conflict : Cond.conflict.now z = raiseIf (roleConflict x.start.population) roleConflictRaise)
    (hm : x.start.missingHeld = false → roleMissing x.start.population = true → Cond.missing.now s = none)
    (hc : x.start.conflictHeld = false → roleConflict x.start.population = true → Cond.conflict.now s = none) :
    Judged s z x x.populationCheck := by
  rw [State.populationCheck_eq]
  let u := x.markPopulation.checkCondition x.start.missingHeld (roleMissing x.start.population) roleMissingRaise
  refine (Acts.of_engine (x := x) (y := x.markPopulation) rfl fun _ h => h).andThen (Acts.andThen (y := u) ?_ ?_)
  · refine Acts.checkCondition (k := .missing) roleMissing_synthetic rfl (fun held now => ?_) (fun now => ?_) fun _ now => ?_
    · exact begun_of_none (missing.trans (by rw [now]; rfl)) (hm held now)
    · exact shown_of_some (missing.trans (by rw [now]; rfl))
    · exact ended_of_none (missing.trans (by rw [now]; rfl))
  · refine Acts.checkCondition (k := .conflict) roleConflict_synthetic rfl (fun held now => ?_) (fun now => ?_) fun _ now => ?_
    · exact begun_of_none (conflict.trans (by rw [now]; rfl)) (hc held now)
    · exact shown_of_some (conflict.trans (by rw [now]; rfl))
    · exact ended_of_none (conflict.trans (by rw [now]; rfl))

theorem Cond.now_markPopulation {k : Cond} (hk : ¬ k.isRole) : k.now x.markPopulation = k.now x := by
  cases k with
  | missing | conflict => exact absurd trivial hk
  | _ => rfl

/-- The conditions of the roles where they are those of `s`, or those of the population record. -/
def RolesSettled (s x : State) : Prop :=
  Cond.missing.now x = Cond.missing.now s ∧ Cond.conflict.now x = Cond.conflict.now s ∨ Marked x.start

theorem Stretch.populationCheck (riding : x.station.riding = true) (roles : RolesSettled s x) :
    Stretch s noCond x x.populationCheck := by
  have works := Works.populationCheck x
  have nows : ∀ k : Cond, k.now x.populationCheck = k.now x.markPopulation := fun k =>
    Cond.now_kept works.course works.selector works.kept k
  have marked : x.markPopulation.station.riding = true := riding
  have missing : Cond.missing.now x.populationCheck = raiseIf (roleMissing x.start.population) roleMissingRaise := by
    rw [nows, Cond.now, marked]; rfl
  have conflict : Cond.conflict.now x.populationCheck = raiseIf (roleConflict x.start.population) roleConflictRaise := by
    rw [nows, Cond.now, marked]; rfl
  have was : Cond.missing.now x = raiseIf x.start.missingHeld roleMissingRaise
      ∧ Cond.conflict.now x = raiseIf x.start.conflictHeld roleConflictRaise := by
    rw [Cond.now, Cond.now, riding]; exact ⟨rfl, rfl⟩
  refine ⟨fun k => ?_, .mono (Acts.populationCheck missing conflict (fun held now => ?_) fun held now => ?_) (fun _ => id)
    (fun _ => id) (fun _ _ => id) fun _ h => h.1⟩
  · by_cases hk : k.isRole
    · cases k with
      | missing =>
        rcases roles with ⟨same, -⟩ | ⟨same, -⟩
        · exact onward_of_same same
        · exact onward_of_kept (by rw [missing, was.1, same])
      | conflict =>
        rcases roles with ⟨-, same⟩ | ⟨-, same⟩
        · exact onward_of_same same
        · exact onward_of_kept (by rw [conflict, was.2, same])
      | _ => exact absurd hk (fun h => h)
    · exact onward_of_kept ((nows k).trans (Cond.now_markPopulation hk))
  · rcases roles with ⟨same, -⟩ | ⟨same, -⟩
    · rw [← same, was.1, held]; rfl
    · rw [same, now] at held; cases held
  · rcases roles with ⟨-, same⟩ | ⟨-, same⟩
    · rw [← same, was.2, held]; rfl
    · rw [same, now] at held; cases held

/-! ### The counts and the clash ages -/

/-- Start control is given anew, with the same station state, straps and roles. -/
theorem Inv.setStart {a : StartControl} (inv : Inv s x) (station : a.station = x.start.station)
    (straps : a.straps = x.start.straps)
    (roles : ∀ i, (a.population.get i).role = (x.start.population.get i).role)
    (held : a.missingHeld = s.start.missingHeld ∧ a.conflictHeld = s.start.conflictHeld ∨ Marked a) :
    Inv s (x.setStart a) where
  table := inv.table
  entries := inv.entries
  queue := inv.queue
  line := inv.line
  config := inv.config
  roles := fun i => (roles i).trans (inv.roles i)
  riding := (congrArg StationState.riding station).trans inv.riding
  held := held
  fed := fun riding => (inv.fed riding).next ⟨rfl, rfl, rfl⟩ (.of_entries (by rw [State.own, State.setStart_start, straps]; rfl) rfl fun _ h => ⟨h, rfl⟩)

/-- The invariant where the engine has worked. -/
theorem Inv.worked (inv : Inv s x) {e : Engine} (g : List (Queued Alert) → List (Queued Alert))
    (table : TableLaw e.records) : Inv s (x.worked e g) where
  table := table
  entries := inv.entries
  queue := inv.queue
  line := inv.line
  config := inv.config
  roles := inv.roles
  riding := inv.riding
  held := inv.held
  fed := fun riding => (inv.fed riding).next ⟨rfl, rfl, rfl⟩ (.of_entries rfl rfl fun _ h => ⟨h, rfl⟩)

/-- It holds as the own expiry begins. -/
theorem Inv.refl (table : TableLaw s.engine.records) (still : Settled s) (conditions : ConditionsLaw s) : Inv s s where
  table := table
  entries := fun i => .inl (.refl _)
  queue := fun _ h => h
  line := ⟨rfl, rfl, rfl⟩
  config := rfl
  roles := fun _ => rfl
  riding := rfl
  held := .inl ⟨rfl, rfl⟩
  fed := fun riding =>
    { fit := conditions riding
      speed := fun h => by rw [still.1]; exact h
      charge := fun h => by rw [← still.1]; exact h
      speedSince := id
      chargeSince := id }

theorem Inv.expiryCounted (later : List Later) (inv : Inv s s) : Inv s (s.expiryCounted later) := by
  obtain ⟨e, g, eq, -, table⟩ := s.expiryCounted_eq later
  rw [eq]
  exact (inv.setStart (a := { s.start with beaconTimer := some (periodMs s.config.period) }) rfl rfl (fun _ => rfl)
    (.inl ⟨rfl, rfl⟩)).worked g (table inv.table)

theorem State.expiryCounted_selector (later : List Later) (s : State) : (s.expiryCounted later).selector = s.selector := by
  obtain ⟨e, g, eq, -⟩ := s.expiryCounted_eq later
  rw [eq]; rfl

theorem Six.map_role (p : Six Place) (i : Station) : ((p.map Place.countClash).get i).role = (p.get i).role := by
  rw [Six.get_map]; rfl

/-- The clash ages fall, and no condition changes by that alone (R9). -/
theorem Inv.expiryClashed (later : List Later) (inv : Inv s (s.expiryCounted later)) : Inv s (s.expiryClashed later) := by
  refine inv.setStart rfl rfl (fun i => Six.map_role _ i) (.inl ?_)
  rw [State.expiryCounted_start]; exact ⟨rfl, rfl⟩

theorem Stretch.expiryClashed (later : List Later) : Stretch s noCond (s.expiryCounted later) (s.expiryClashed later) := by
  have roles : SameRoles (s.expiryCounted later) (s.expiryClashed later) := fun i => Six.map_role _ i
  refine .still (fun k => ?_) (fun _ _ => rfl) (.of_engine rfl) rfl
  cases k with
  | down i => exact (Cond.now_of_alike (x := s.expiryCounted later) (y := s.expiryClashed later) (.refl _) roles rfl).1
  | _ => rfl

/-- The conditions of the roles as the clash ages have fallen. -/
theorem RolesSettled.expiryClashed (later : List Later) : RolesSettled s (s.expiryClashed later) := by
  have start : (s.expiryClashed later).start.missingHeld = s.start.missingHeld
      ∧ (s.expiryClashed later).start.conflictHeld = s.start.conflictHeld
      ∧ (s.expiryClashed later).station = s.station := by
    simp only [State.expiryClashed, State.station, State.setStart_start, State.expiryCounted_start, and_self]
  obtain ⟨missing, conflict, station⟩ := start
  exact .inl ⟨by rw [Cond.now, Cond.now, missing, station], by rw [Cond.now, Cond.now, conflict, station]⟩

theorem Inv.populationCheck (inv : Inv s x) : Inv s x.populationCheck := by
  have marked : Inv s x.markPopulation := inv.setStart rfl rfl (fun _ => rfl) (.inr (marked_markPopulation x))
  exact marked.kept (Works.populationCheck x).course (Works.populationCheck x).selector (Works.populationCheck x).kept

theorem Stretch.countClashes (later : List Later) (inv : Inv s (s.expiryCounted later)) :
    Inv s ((s.expiryCounted later).countClashes later)
      ∧ Stretch s noCond (s.expiryCounted later) ((s.expiryCounted later).countClashes later) := by
  have clashed := inv.expiryClashed later
  unfold State.countClashes
  simp only
  split
  · show Inv s (s.expiryClashed later).recheckPopulation ∧ Stretch s noCond _ (s.expiryClashed later).recheckPopulation
    unfold State.recheckPopulation
    split
    next riding =>
      exact ⟨clashed.populationCheck, (Stretch.expiryClashed later).and_then (.populationCheck riding (.expiryClashed later))⟩
    next => exact ⟨clashed, .expiryClashed later⟩
  · exact ⟨clashed, .expiryClashed later⟩

/-- Start control's part of the own expiry (R9, R10). -/
theorem Stretch.expiryRoles (later : List Later) (inv : Inv s (s.expiryCounted later)) :
    Inv s (s.expiryRoles later) ∧ Stretch s Cond.isRole (s.expiryCounted later) (s.expiryRoles later) := by
  obtain ⟨inv', stretch⟩ := Stretch.countClashes later inv
  cases riding : ((s.expiryCounted later).countClashes later).station.riding with
  | true =>
    obtain ⟨inv'', stretch', -⟩ := Goes.presentRoles (s := s) ((s.expiryCounted later).countClashes later) riding inv'
    exact ⟨inv'', stretch.trans stretch' fun _ => .inr⟩
  | false =>
    have same : s.expiryRoles later = (s.expiryCounted later).countClashes later := if_neg (by rw [riding]; decide)
    have srides : s.station.riding = false := inv'.riding.symm.trans riding
    rw [same]
    refine ⟨inv', stretch.weaken fun k hk held => ?_⟩
    cases k with
    | missing | conflict => rw [Cond.now, srides] at held; cases held
    | _ => exact absurd hk (fun h => h)

end

/-! ### The peer view, the isolation unit and the selector -/

section
variable {s : State} (waits : ∀ i ∈ s.isolation.queue, (s.peer i).state.down = true) (later : List Later)
include waits

theorem Goes.expiryPeers (onLine : (s.expiryRoles later).station.onLine = true) :
    Goes s Cond.isEntry (s.expiryRoles later) (s.expiryPeers later) := by
  let x := ((((s.expiryRoles later).agePlaces later).countHolds.countRejoin later).retryOwed).peersPeriod later
  have course : Course (s.expiryRoles later) x.presentPeers :=
    (((((Course.agePlaces later _).trans (.countHolds _)).trans (.countRejoin later _)).trans (.retryOwed _)).trans
      (.peersPeriod later _)).trans (Works.presentPeers x).course
  have before : Goes s noCond (s.expiryRoles later) x :=
    ((((Goes.agePlaces _ later).and_then (.countHolds _)).and_then (.countRejoin _ later)).and_then (.retryOwed _)).and_then
      (.peersPeriod waits later _)
  have res : resolving x.presentPeers.station := resolving_of_onLine (course.onLine.trans onLine)
  exact (before.trans (Goes.presentPeers x) fun _ => .inr).and_then (.refreshServed res)

/-- The selector's period (R57, R61, R62). -/
theorem Stretch.selectorPeriod {x : State} (onLine : x.station.onLine = true) (checks : ChecksKept s x) (inv : Inv s x) :
    Inv s (x.selectorPeriod later) ∧ Stretch s Cond.isSelector x (x.selectorPeriod later) := by
  have station : (x.mapOwn countFresh).station = x.station := x.mapOwn_station countFresh
  obtain ⟨inv', stretch, kept⟩ :=
    ((Goes.mapOwn (s := s) (x := x)).and_then (.refreshServed (resolving_of_onLine (station ▸ onLine)))) inv
  unfold State.selectorPeriod
  simp only
  split
  next riding =>
    obtain ⟨inv1, stretch1, brake⟩ := Stretch.evaluateChecks waits later riding (checks.trans kept) inv'
    have riding1 := (Course.evaluateChecks later (x.mapOwn countFresh).refreshServed).riding.trans riding
    obtain ⟨inv2, stretch2⟩ := Stretch.countBrake later riding1 brake inv1
    have riding2 := (Course.countBrake later _).riding.trans riding1
    obtain ⟨inv3, stretch3, -⟩ := Goes.presentSelector (s := s) _ riding2 inv2
    exact ⟨inv3, ((stretch.and_then stretch1).and_then stretch2).trans stretch3 fun _ => .inr⟩
  next riding =>
    have srides : s.station.riding = false := inv'.riding.symm.trans (Bool.eq_false_iff.2 riding)
    refine ⟨inv', stretch.weaken fun k hk held => ?_⟩
    cases k with
    | disputed | speedUnknown | brake | charge => rw [Cond.now, srides] at held; cases held
    | _ => exact absurd hk (fun h => h)

end

theorem Goes.periodicBeacon {s : State} (x : State) : Goes s noCond x x.periodicBeacon := fun inv =>
  ⟨{ table := inv.table, entries := inv.entries, queue := inv.queue, line := inv.line, config := inv.config
     roles := inv.roles, riding := inv.riding, held := inv.held
     fed := fun riding => (inv.fed riding).next ⟨rfl, rfl, rfl⟩ (.of_entries rfl rfl fun _ h => ⟨h, rfl⟩) },
   .still (fun k => by cases k <;> rfl) (fun _ _ => rfl) (.of_engine rfl) rfl, ⟨rfl, rfl, rfl⟩⟩

end Sys2Proof.Machine
end

section
/-! The own expiry as a whole: what it has presented. -/

namespace Sys2Proof.Machine

/-! ### Up to the beacon -/

section
variable {s : State} (waits : ∀ i ∈ s.isolation.queue, (s.peer i).state.down = true) (later : List Later)
  (onLine : s.station.onLine = true) (inv : Inv s (s.expiryCounted later))

/-- Start control's part is work of the engine, once start control has been given anew. -/
theorem expiryRoles_base (later : List Later) (s : State) : ∃ a, a.station = s.station
    ∧ a.straps = s.start.straps ∧ Works ((s.expiryCounted later).setStart a) (s.expiryRoles later) := by
  obtain ⟨v, hv, -, -, works⟩ := s.expiryRoles_works later
  have station : (s.expiryCounted later).start.station = s.station := s.expiryCounted_station later
  have straps : (s.expiryCounted later).start.straps = s.start.straps := by rw [s.expiryCounted_start]
  rcases hv with rfl | rfl
  · exact ⟨(s.expiryClashed later).start, station, straps, works⟩
  · exact ⟨(s.expiryClashed later).markPopulation.start, station, straps, works⟩

theorem expiryRoles_station_onLine {s : State} (later : List Later) (onLine : s.station.onLine = true) :
    (s.expiryRoles later).station.onLine = true := by
  obtain ⟨a, station, -, works⟩ := expiryRoles_base later s
  exact works.course.onLine.trans ((congrArg StationState.onLine station).trans onLine)

theorem expiryRoles_selector (later : List Later) (s : State) : (s.expiryRoles later).selector = s.selector := by
  obtain ⟨a, -, -, works⟩ := expiryRoles_base later s
  exact works.selector.trans (s.expiryCounted_selector later)

include waits onLine inv

theorem Stretch.expirySent : Inv s (s.expirySent later)
    ∧ Stretch s (fun _ => True) (s.expiryCounted later) (s.expirySent later) := by
  have online1 := expiryRoles_station_onLine later onLine
  obtain ⟨inv1, stretch1⟩ := Stretch.expiryRoles later inv
  obtain ⟨inv2, stretch2, checks⟩ := Goes.expiryPeers waits later online1 inv1
  have online2 : (s.expiryPeers later).station.onLine = true := (Course.expiryPeers later s).onLine.trans online1
  have kept : ChecksKept s (s.expiryPeers later) := (ChecksKept.of_selector (expiryRoles_selector later s)).trans checks
  obtain ⟨inv3, stretch3⟩ := Stretch.selectorPeriod waits later online2 kept inv2
  obtain ⟨inv4, stretch4, -⟩ := Goes.presentLine (s := s) ((s.expiryPeers later).selectorPeriod later) inv3
  obtain ⟨inv5, stretch5, -⟩ := Goes.periodicBeacon (s := s) ((s.expiryPeers later).selectorPeriod later).presentLine inv4
  refine ⟨inv5, ((((stretch1.next stretch2).next stretch3).next stretch4).and_then stretch5).weaken fun k _ _ => ?_⟩
  cases k with
  | missing | conflict => exact .inl (.inl (.inl trivial))
  | down i | posture i | mismatch i => exact .inl (.inl (.inr trivial))
  | disputed | speedUnknown | brake | charge => exact .inl (.inr trivial)
  | txFail | degraded | stuck => exact .inr trivial

end

/-! ### The entry to RUN -/

section
variable {s x : State}

theorem Acts.raiseAtEntry {B E : Cond → Prop} {P : Cond → Raise → Prop}
    (speed : x.selector.served.speed.isNone = true → B .speedUnknown)
    (charge : decide (servedValue x.selector.served.charger = 1) = true → B .charge) :
    Acts B E P noCond x x.raiseAtEntry := by
  rw [State.raiseAtEntry_eq]
  let u := x.speedAtEntry.conditionNow false x.selector.served.speed.isNone speedUnknownRaise
  have first : Acts B E P noCond x x.speedAtEntry := .of_engine rfl fun _ h => h
  have second : Acts B E P noCond x.speedAtEntry u := .conditionNow (k := .speedUnknown) rfl (fun _ => speed) nofun
  have third : Acts B E P noCond u x.chargeAtEntry := .of_engine rfl fun _ h => h
  exact ((first.andThen second).andThen third).andThen (.conditionNow (k := .charge) rfl (fun _ => charge) nofun)

/-- The entry to RUN from JOIN, where the conditions of RUN have not held (R8, R10, R61). -/
theorem Stretch.enterRun (still : x.station.riding = false) (srides : s.station.riding = false) :
    Stretch s noCond x x.enterRun := by
  have riding : x.enterRun.station.riding = true := by rw [State.enterRun_station]; rfl
  have start := x.enterRun_start
  have selector := x.enterRun_selector
  have works := Works.checkedRun x
  have before : ∀ k : Cond, k.isRole ∨ k.isSelector → k.now s = none ∧ k.now x = none := fun k hk => by
    cases k with
    | missing | conflict | disputed | speedUnknown | brake | charge =>
      rw [Cond.now, Cond.now, srides, still]; exact ⟨rfl, rfl⟩
    | _ => exact absurd hk (fun h => h.elim id id)
  have missing : Cond.missing.now x.enterRun = raiseIf (roleMissing x.start.population) roleMissingRaise := by
    rw [Cond.now, riding, start]; rfl
  have conflict : Cond.conflict.now x.enterRun = raiseIf (roleConflict x.start.population) roleConflictRaise := by
    rw [Cond.now, riding, start]; rfl
  have speed : Cond.speedUnknown.now x.enterRun = raiseIf x.selector.served.speed.isNone speedUnknownRaise := by
    rw [Cond.now, riding, selector]; rfl
  have charge : Cond.charge.now x.enterRun
      = raiseIf (decide (servedValue x.selector.served.charger = 1)) chargeInterlockRaise := by
    rw [Cond.now, riding, selector]; rfl
  refine ⟨fun k => ?_, .mono (Q := noCond) ?_ (fun _ => id) (fun _ => id) (fun _ _ => id) fun _ h => h.1⟩
  · by_cases hk : k.isRole ∨ k.isSelector
    · obtain ⟨none, none'⟩ := before k hk
      exact onward_of_same (none'.trans none.symm)
    · have entered : Steady (x.enteredRun.setSelector (enteredSelector x.selector)) x.checkedRun :=
        .of_course works.course works.selector
      have same := entered.now_of_alike (fun i => (works.kept i).1) k
      refine onward_of_kept (Eq.trans (b := k.now x.checkedRun) ?_ (same.trans ?_))
      · rw [State.enterRun_eq, State.startAtEntry_eq]; cases k <;> rfl
      · cases k with
        | missing | conflict => exact absurd (.inl trivial) hk
        | disputed | speedUnknown | brake | charge => exact absurd (.inr trivial) hk
        | _ => rfl
  · let u := x.setStart { x.start with station := .run, everRun := true }
    have first : Judged s x.enterRun u u.populationCheck :=
      Acts.populationCheck missing conflict (fun _ _ => (before .missing (.inl trivial)).1)
        fun _ _ => (before .conflict (.inl trivial)).1
    have second : Judged s x.enterRun u.populationCheck u.populationCheck.raiseAtEntry := by
      have sel : u.populationCheck.selector = x.selector := x.populatedRun_selector
      refine .raiseAtEntry (fun h => ?_) fun h => ?_
      · rw [sel] at h
        exact begun_of_none (speed.trans (by rw [h]; rfl)) (before .speedUnknown (.inr trivial)).1
      · rw [sel] at h
        exact begun_of_none (charge.trans (by rw [h]; rfl)) (before .charge (.inr trivial)).1
    have third : Judged s x.enterRun u.populationCheck.raiseAtEntry x.checkedRun :=
      .still (fun c hc => State.compareQuorum_bare _ hc) (.compareQuorum _) (Works.compareQuorum _).counts.1 fun _ h => h
    have whole : Judged s x.enterRun x x.checkedRun :=
      (((Acts.of_engine (x := x) (y := u) rfl fun _ h => h).andThen first).andThen second).andThen third
    exact whole.andThen (.of_engine x.enterRun_engine fun _ h => h)

end

end Sys2Proof.Machine
end

section
/-! The end of the own expiry: the discovery counter, the probation that starts, the checks after a park. -/

namespace Sys2Proof.Machine

/-! ### The served values are those of the sources -/

section
variable (later : List Later)

theorem State.countBrake_works (x : State) : ∃ n b, Works (x.setBrake n b) (x.countBrake later) := by
  unfold countBrake
  split
  · split
    · exact ⟨_, _, .conditionGone ..⟩
    · exact ⟨x.selector.brakeCount, x.selector.brakeHolds, .refl x⟩
  · split
    · simp only; split
      · exact ⟨addSat Config.brakeThrottlePeriods x.selector.brakeCount 1, true, .raise ..⟩
      · exact ⟨_, _, .refl _⟩
    · exact ⟨_, _, .refl _⟩

/-- Neither the brake-throttle count nor what the engine does changes the served values or their sources. -/
theorem served_of_works {x u y : State} (h : x.resolved = x.selector.served) (resolved : u.resolved = x.resolved)
    (served : u.selector.served = x.selector.served) (works : Works u y) : y.resolved = y.selector.served := by
  rw [works.resolved, works.selector, resolved, served]; exact h

/-- The cross-checks end with the served values worked out again. -/
theorem State.evaluateChecks_eq (x : State) : ∃ y, Course x y ∧ x.evaluateChecks later = y.refreshServed := by
  have counted : ∀ m n, Course x (x.setSelector { x.selector with speedCount := m, voltageCount := n }) := fun m n =>
    .setSelector x rfl
  exact ⟨_, (((counted _ _).trans (.setDisputed _ _ _)).trans (.chargeOutlier _ _)).trans (.chargeOutlier _ _), rfl⟩

theorem evaluateChecks_served {x : State} (onLine : x.station.onLine = true) :
    (x.evaluateChecks later).resolved = (x.evaluateChecks later).selector.served := by
  obtain ⟨y, course, eq⟩ := x.evaluateChecks_eq later
  rw [eq]
  exact State.refreshServed_served (resolving_of_onLine (course.onLine.trans onLine))

theorem selectorPeriod_served {x : State} (onLine : x.station.onLine = true) :
    (x.selectorPeriod later).resolved = (x.selectorPeriod later).selector.served := by
  let u := (x.mapOwn countFresh).refreshServed
  have station : u.station.onLine = true := (Course.refreshServed (x.mapOwn countFresh)).onLine.trans onLine
  have refreshed : u.resolved = u.selector.served :=
    State.refreshServed_served (resolving_of_onLine (show (x.mapOwn countFresh).station.onLine = true from onLine))
  unfold State.selectorPeriod
  simp only
  split
  next riding =>
    obtain ⟨n, b, braked⟩ := (u.evaluateChecks later).countBrake_works later
    exact served_of_works (u := (u.evaluateChecks later).setBrake n b) (evaluateChecks_served later station) (State.setSelector_resolved _ rfl) rfl (braked.trans (.presentSelector _))
  next => exact refreshed

theorem expirySent_served_of_onLine {s : State} (onLine : s.station.onLine = true) :
    (s.expirySent later).resolved = (s.expirySent later).selector.served := by
  have online : (s.expiryPeers later).station.onLine = true :=
    (Course.expiryPeers later s).onLine.trans (expiryRoles_station_onLine later onLine)
  rw [State.expirySent, State.periodicBeacon_resolved, State.periodicBeacon_selector]
  exact served_of_works (selectorPeriod_served later online) rfl rfl (.presentLine _)

end

/-! ### The discovery counter -/

/-- What the end of the handling needs of the entries and of the roles. -/
structure Ending (s x : State) : Prop where
  entries : ∀ i, EntryGoes s x i
  roles : SameRoles s x
  config : x.config = s.config
  parked : s.station = .parking → RolesSettled s x
  served : x.resolved = x.selector.served

theorem Inv.ending {s x : State} (inv : Inv s x) (served : x.resolved = x.selector.served) : Ending s x where
  entries := inv.entries
  roles := inv.roles
  config := inv.config
  parked := fun _ => inv.held.imp (fun ⟨missing, conflict⟩ =>
    ⟨by rw [Cond.now, Cond.now, missing, inv.riding], by rw [Cond.now, Cond.now, conflict, inv.riding]⟩) id
  served := served

section
variable {s x : State}

theorem EntryGoes.of_same {y : State} {i : Station} (h : EntryGoes s x i) (peers : y.peers = x.peers)
    (queue : y.isolation.queue = x.isolation.queue) : EntryGoes s y i := by
  have entry : y.peer i = x.peer i := by rw [State.peer, peers]; rfl
  rw [EntryGoes, entry, queue]; exact h

theorem State.enterRun_peers (x : State) : x.enterRun.peers = x.peers := by
  rw [enterRun_eq, startAtEntry_eq]; exact (Works.checkedRun x).peers

theorem State.enterRun_queue (x : State) : x.enterRun.isolation.queue = x.isolation.queue := by
  rw [enterRun_eq, startAtEntry_eq]
  obtain ⟨queue, -⟩ := (Works.checkedRun x).isolation
  exact queue

theorem State.enterRun_config (x : State) : x.enterRun.config = x.config := by
  rw [enterRun_eq, startAtEntry_eq]; exact (Course.checkedRun x).config

theorem Ending.enterRun (h : Ending s x) (join : s.station = .join) : Ending s x.enterRun where
  entries := fun i => (h.entries i).of_same x.enterRun_peers x.enterRun_queue
  roles := h.roles.trans fun i => by rw [x.enterRun_start]; rfl
  config := x.enterRun_config.trans h.config
  parked := fun parking => by rw [join] at parking; cases parking
  served := by rw [x.enterRun_resolved, x.enterRun_selector]; exact h.served

/-- The discovery counter, and in JOIN the entry to RUN (R8). -/
theorem Stretch.countDiscovery (later : List Later) (inv : Inv s x) (served : x.resolved = x.selector.served)
    (join : x.station = .join → s.station = .join) :
    Ending s (x.countDiscovery later) ∧ Stretch s noCond x (x.countDiscovery later) := by
  unfold State.countDiscovery
  split
  next hst =>
    let u := x.setStart { x.start with discovery := addSat Config.joinPeriods x.start.discovery 1 }
    have invU : Inv s u := inv.setStart rfl rfl (fun _ => rfl) inv.held
    have stretchU : Stretch s noCond x u := .still (fun k => by cases k <;> rfl) (fun _ _ => rfl) (.of_engine rfl) rfl
    have servedU : u.resolved = u.selector.served := (x.setDiscovery_resolved _).trans served
    have endingU : Ending s u := invU.ending servedU
    simp only
    split
    next =>
      have still : u.station.riding = false := by show x.station.riding = false; rw [hst]; rfl
      exact ⟨endingU.enterRun (join hst), stretchU.and_then (.enterRun still (by rw [join hst]; rfl))⟩
    next => exact ⟨endingU, stretchU⟩
  next => exact ⟨inv.ending served, .refl s x⟩

end

/-! ### The end of the handling -/

section
variable {s x : State}

theorem onProbation_down (e : PeerEntry) : e.onProbation.state.down = true := rfl

/-- A probation starts (R146, R147). -/
theorem Stretch.startProbation (h : Ending s x) : Stretch s noCond x x.startProbation := by
  unfold State.startProbation
  split
  · split
    next i rest probation queue =>
      let u := x.setIsolation { x.isolation with
        probation := some { station := i, origin := originFrom (x.peer i).state, clean := 0 } }
      have alike : Alike (s.peer i) (u.peer i) :=
        (h.entries i).resolve_right fun gone => gone.2 (by rw [queue]; exact List.mem_cons_self)
      refine Stretch.and_then (y := u) (.still (fun k => by cases k <;> rfl) (fun _ _ => rfl) (.of_engine rfl) rfl) ?_
      exact .goesDown (x := u) h.roles h.config alike (onProbation_down _)
    next => exact .refl s x
  · exact .refl s x

theorem Stretch.works {y : State} (works : Works x y) (bare : ∀ c, c ≠ 3 → y.bare c = x.bare c) (fills : Fills x y) :
    Stretch s noCond x y :=
  .still (Cond.now_kept works.course works.selector works.kept) bare fills works.counts.1

/-- The checks after a park that was abandoned (R10, R141). -/
theorem Stretch.checkAfterPark (roles : s.station = .parking → RolesSettled s x) :
    Stretch s noCond x (s.checkAfterPark x) := by
  unfold State.checkAfterPark
  split
  next h =>
    refine (Stretch.populationCheck (by rw [h.2]; rfl) (roles h.1)).and_then ?_
    exact .works (.compareQuorum _) (fun c hc => State.compareQuorum_bare _ hc) (.compareQuorum _)
  next => exact .refl s x

theorem Stretch.handOver : Stretch s noCond x (s.handOver x) := by
  refine .still (fun k => ?_) (fun c _ => State.handOver_bare ..) (.handOver s x) (State.handOver_beaconCount ..)
  have roles : SameRoles x (s.handOver x) := fun i => by rw [State.handOver_start]
  have entries : ∀ i, Alike (x.peer i) ((s.handOver x).peer i) := fun i => by rw [State.handOver_peer]; exact .refl _
  have steady : Steady x (s.handOver x) :=
    { line := by rw [State.handOver_line]; exact ⟨rfl, rfl, rfl⟩
      config := State.handOver_config ..
      start := by rw [State.handOver_start, State.handOver_station]; rfl
      riding := by rw [State.handOver_station]
      selector := State.handOver_selector .. }
  exact steady.now_of_alike entries k

/-- The end of the handling presents nothing and changes no condition that it does not raise or end. -/
theorem Stretch.finish (h : Ending s x) : Stretch s noCond x (s.finish x) := by
  have still : x.refreshServed = x := State.refreshServed_of_resolved h.served
  have roles : s.station = .parking → RolesSettled s x.startProbation := fun parking => by
    have course := Course.startProbation x
    have start := course.start_but_station
    rcases h.parked parking with ⟨missing, conflict⟩ | marked
    · refine .inl ⟨Eq.trans ?_ missing, Eq.trans ?_ conflict⟩
      · rw [Cond.now, Cond.now, course.riding, start]
      · rw [Cond.now, Cond.now, course.riding, start]
    · exact .inr (by rw [start]; exact marked)
  rw [State.finish, still]
  exact ((Stretch.startProbation h).and_then (.checkAfterPark roles)).and_then .handOver

end

end Sys2Proof.Machine
end

section
/-! The presentations of the own expiry, from its beginning to its end. -/

namespace Sys2Proof.Machine

/-! ### The counts leave the records that hold -/

/-- In a table without two records of one code a record is found by its code. -/
theorem findRecord_of_mem {l : List Record} (h : (l.map Record.code).Pairwise (· < ·)) {r : Record} (hr : r ∈ l) :
    findRecord r.code l = some r := by
  induction l with
  | nil => cases hr
  | cons x l ih =>
    rw [List.map_cons, List.pairwise_cons] at h
    rw [findRecord_cons]
    rcases List.mem_cons.1 hr with rfl | hr
    · exact if_pos rfl
    · have less := h.1 r.code (List.mem_map_of_mem hr)
      rw [if_neg (by omega)]; exact ih h.2 hr

theorem findRecord_map_countDwell (c : Nat) (l : List Record) :
    findRecord c (l.map countDwell) = (findRecord c l).map countDwell := by
  induction l with
  | nil => rfl
  | cons x l ih =>
    rw [List.map_cons, findRecord_cons, findRecord_cons, countDwell_code]
    split
    · rfl
    · exact ih

theorem countDwell_of_lasting {r : Record} (h : ∀ n, r.life ≠ .dwell n) : countDwell r = r := by
  unfold countDwell
  split
  next n hn => exact absurd hn (h n)
  next => rfl

section
variable {s : State} (later : List Later)

/-- A record that is not in DWELL does not leave the table by the counts (R81). -/
theorem not_mem_endingCodes {l : List Record} (table : TableLaw l) {c : Nat} {r : Record} (found : findRecord c l = some r)
    (lasting : ∀ n, r.life ≠ .dwell n) : c ∉ endingCodes later l := by
  intro h
  obtain ⟨mem, -⟩ := List.mem_filter.1 h
  obtain ⟨x, hx, rfl⟩ := List.mem_map.1 mem
  obtain ⟨hx, ended⟩ := List.mem_filter.1 hx
  rw [findRecord_of_mem table.1 hx] at found
  cases found
  exact lasting 0 (of_decide_eq_true ended)

theorem State.removeRecords_bare {c : Nat} (l : List Nat) (h : c ∉ l) (u : State) :
    (l.foldl State.removeRecord u).bare c = u.bare c := by
  induction l generalizing u with
  | nil => rfl
  | cons d l ih =>
    obtain ⟨ne, out⟩ := not_or.1 fun hm => h (List.mem_cons.2 hm)
    exact (ih out _).trans (by rw [removeRecord_bare, if_neg ne])

/-- A record that holds or has latched stays as the expiry begins. -/
theorem State.expiryCounted_bare_of_lasting (table : TableLaw s.engine.records) {c : Nat} {r : Record}
    (found : s.record c = some r) (lasting : ∀ n, r.life ≠ .dwell n) : (s.expiryCounted later).bare c = s.bare c := by
  let u := s.setStart { s.start with beaconTimer := some (periodMs s.config.period) }
  obtain ⟨k, n, eq⟩ := (u.countRecords later).countRelease_eq later
  have counted : findRecord c (s.engine.records.map countDwell) = some r := by
    rw [findRecord_map_countDwell, show findRecord c s.engine.records = some r from found]
    exact congrArg some (countDwell_of_lasting lasting)
  have kept : (u.countRecords later).bare c = (u.setEngine s.engine.counted).bare c :=
    removeRecords_bare _ (not_mem_endingCodes later table.countDwell counted lasting) _
  have whole : (s.expiryCounted later).bare c = (u.countRecords later).bare c := by rw [expiryCounted, eq]; rfl
  rw [whole, kept, bare, bare, found]
  exact congrArg untaken counted

end

/-! ### The presentations -/

theorem State.periodicBeacon_station (s : State) : s.periodicBeacon.station = s.station := rfl

/-- RUN and PARKING are not left for JOIN. -/
theorem expirySent_riding (later : List Later) (s : State) :
    (s.expirySent later).station.riding = s.station.riding := by
  obtain ⟨a, station, -, works⟩ := expiryRoles_base later s
  have roles : (s.expiryRoles later).station.riding = s.station.riding :=
    works.riding.trans (congrArg StationState.riding station)
  have peers := (Course.expiryPeers later s).riding
  have selected := (Course.expirySelected later s).riding
  rw [State.mapOwn_station] at selected
  rw [State.expirySent, State.periodicBeacon_station, selected, peers, roles]

section
variable {s : State} (later : List Later) (onLine : s.station.onLine = true)
include onLine

theorem expirySent_join (join : (s.expirySent later).station = .join) : s.station = .join := by
  have riding := expirySent_riding later s
  rw [join] at riding
  revert riding onLine
  cases s.station <;> decide

/-- The whole of the own expiry, from the counts on. -/
theorem Stretch.ownExpiry (rejoin : RejoinLaw s) (still : Settled s) (table : TableLaw s.engine.records)
    (conditions : ConditionsLaw s) : Stretch s (fun _ => True) (s.expiryCounted later) (s.ownExpiry later) := by
  obtain ⟨-, waits, -, -⟩ := rejoin
  have inv := (Inv.refl table still conditions).expiryCounted later
  obtain ⟨inv', sent⟩ := Stretch.expirySent waits later onLine inv
  obtain ⟨ending, counted⟩ := Stretch.countDiscovery later inv' (expirySent_served_of_onLine later onLine)
    (expirySent_join later onLine)
  rw [State.ownExpiry_eq later onLine]
  exact (sent.and_then counted).and_then (.finish ending)

/-- What holds throughout an own expiry has been presented (R49, R76). -/
theorem presented_ownExpiry (rejoin : RejoinLaw s) (still : Settled s) (table : TableLaw s.engine.records)
    (conditions : ConditionsLaw s) : Presented s (s.ownExpiry later) := by
  have stretch := Stretch.ownExpiry later onLine rejoin still table conditions
  refine ⟨fun a hs ht => ?_, fun old latched => ?_⟩
  · have shown := stretch.shown (fun _ => trivial) hs ht
    refine ⟨fun absent => shown.2 (s.expiryCounted_bare_none later (State.bare_eq_none.2 absent)), fun r found holds => ?_⟩
    have found : s.record a.code = some r := found
    have kept := State.expiryCounted_bare_of_lasting later table found (by rw [holds]; exact nofun)
    rcases shown.1.1 with same | ⟨absent, -⟩
    · exact same.trans kept
    · rw [kept, State.bare_of_record found] at absent; cases absent
  · refine (stretch.overflow old).trans ?_
    rcases Option.eq_none_or_eq_some (s.record 4) with hr | ⟨r, hr⟩
    · have none := State.bare_eq_none.2 hr
      exact (s.expiryCounted_bare_none later none).trans none.symm
    · exact State.expiryCounted_bare_of_lasting later table hr (by rw [latched r hr]; exact nofun)

end

end Sys2Proof.Machine
end

section
/-! The claims of a beacon: the local records by level and code. -/

namespace Sys2Proof.Machine

/-- One record's claim comes before another's: by level, highest first, and by code, lowest first (R91). -/
def ClaimsBefore (a b : Record) : Prop := b.level < a.level ∨ a.level = b.level ∧ a.code < b.code

theorem mem_insertClaim {r x : Record} {l : List Record} : x ∈ insertClaim r l ↔ x = r ∨ x ∈ l := by
  induction l with
  | nil => simp [insertClaim]
  | cons y l ih =>
    rw [insertClaim]
    split
    · simp
    · rw [List.mem_cons, ih, List.mem_cons]; exact or_left_comm

/-- A record put behind the records of lower codes keeps the order of claims. -/
theorem ClaimsBefore.insertClaim {r : Record} {l : List Record} (h : l.Pairwise ClaimsBefore)
    (codes : ∀ x ∈ l, x.code < r.code) : (insertClaim r l).Pairwise ClaimsBefore := by
  induction l with
  | nil => exact List.pairwise_singleton ..
  | cons y l ih =>
    obtain ⟨first, rest⟩ := List.pairwise_cons.1 h
    rw [Machine.insertClaim]
    split
    next lower =>
      refine List.pairwise_cons.2 ⟨fun x hx => .inl ?_, h⟩
      rcases List.mem_cons.1 hx with rfl | hx
      · exact lower
      · rcases first x hx with less | ⟨same, -⟩
        · exact less.trans lower
        · rw [← same]; exact lower
    next lower =>
      refine List.pairwise_cons.2 ⟨fun x hx => ?_, ih rest fun x hx => codes x (List.mem_cons_of_mem _ hx)⟩
      rcases mem_insertClaim.1 hx with rfl | hx
      · rcases lt_or_eq_of_le (not_lt.1 lower) with less | same
        · exact .inl less
        · exact .inr ⟨same.symm, codes y List.mem_cons_self⟩
      · exact first x hx

/-- Records of ascending codes, one after another. -/
theorem ClaimsBefore.foldl {l : List Record} (ascending : (l.map Record.code).Pairwise (· < ·)) :
    ∀ {acc : List Record}, acc.Pairwise ClaimsBefore → (∀ x ∈ acc, ∀ r ∈ l, x.code < r.code) →
      (l.foldl (fun m r => Machine.insertClaim r m) acc).Pairwise ClaimsBefore
        ∧ ∀ x, x ∈ l.foldl (fun m r => Machine.insertClaim r m) acc ↔ x ∈ acc ∨ x ∈ l := by
  induction l with
  | nil => exact fun h _ => ⟨h, fun x => by simp⟩
  | cons r l ih =>
    intro acc h codes
    obtain ⟨first, rest⟩ := List.pairwise_cons.1 ascending
    have next := ClaimsBefore.insertClaim h fun x hx => codes x hx r List.mem_cons_self
    obtain ⟨sorted, members⟩ := ih rest next fun x hx y hy => by
      rcases mem_insertClaim.1 hx with rfl | hx
      · exact first y.code (List.mem_map_of_mem hy)
      · exact codes x hx y (List.mem_cons_of_mem _ hy)
    refine ⟨sorted, fun x => (members x).trans ?_⟩
    rw [mem_insertClaim, List.mem_cons, or_comm (a := x = r), or_assoc]

/-- The local records in the order of their claims. -/
def claimOrder (l : List Record) : List Record :=
  (l.filter fun r => isLocal r.code).foldl (fun m r => insertClaim r m) []

theorem claimOrder_spec {l : List Record} (h : TableLaw l) :
    (claimOrder l).Pairwise ClaimsBefore ∧ ∀ r, r ∈ claimOrder l ↔ r ∈ l ∧ isLocal r.code = true := by
  have ascending : ((l.filter fun r => isLocal r.code).map Record.code).Pairwise (· < ·) :=
    h.1.sublist (List.filter_sublist.map _)
  obtain ⟨sorted, members⟩ := ClaimsBefore.foldl ascending (acc := []) List.Pairwise.nil nofun
  exact ⟨sorted, fun r => (members r).trans (by simp)⟩

/-- The claims are those of R91. -/
theorem claimsOf_claims {s t : State} (table : TableLaw s.engine.records) (same : t.engine.records = s.engine.records) :
    ClaimsOf t s.claims := by
  obtain ⟨sorted, members⟩ := claimOrder_spec table
  have eq : s.claims = ((claimOrder s.engine.records).take 4).map fun r => { code := r.code, level := r.level } := rfl
  rw [ClaimsOf, eq, same]
  refine ⟨?_, ?_, fun c hc => ?_, fun r hr hl => ?_⟩
  · rw [List.length_map, List.length_take]; omega
  · exact List.pairwise_map.2 (sorted.sublist (List.take_sublist ..))
  · obtain ⟨r, hr, rfl⟩ := List.mem_map.1 hc
    obtain ⟨mem, isLocal⟩ := (members r).1 (List.mem_of_mem_take hr)
    exact ⟨r, mem, rfl, rfl, isLocal⟩
  · have mem := (members r).2 ⟨hr, hl⟩
    rw [← List.take_append_drop 4 (claimOrder s.engine.records)] at mem sorted
    rcases List.mem_append.1 mem with taken | dropped
    · exact .inl ⟨_, List.mem_map_of_mem taken, rfl⟩
    · refine .inr ⟨?_, fun c hc => ?_⟩
      · have long := List.length_pos_of_mem dropped
        rw [List.length_drop] at long
        rw [List.length_map, List.length_take]; omega
      · obtain ⟨x, hx, rfl⟩ := List.mem_map.1 hc
        rcases (List.pairwise_append.1 sorted).2.2 x hx r dropped with less | ⟨level, code⟩
        · exact .inl less
        · exact .inr ⟨level.symm, code⟩

end Sys2Proof.Machine
end

section
/-! The obligation on the own expiry. -/

namespace Sys2Proof.Machine

/-! ### What every own expiry keeps -/

/-- The set, the trip inputs, the straps and the own beacon count stay, and the own values. -/
structure Carries (x y : State) : Prop where
  config : y.config = x.config
  trips : y.trips = x.trips
  straps : y.start.straps = x.start.straps
  count : y.engine.beaconCount = x.engine.beaconCount
  own : y.selector.own = x.selector.own

theorem Carries.refl (x : State) : Carries x x := ⟨rfl, rfl, rfl, rfl, rfl⟩

theorem Carries.trans {x y z : State} (h : Carries x y) (h' : Carries y z) : Carries x z :=
  ⟨h'.config.trans h.config, h'.trips.trans h.trips, h'.straps.trans h.straps, h'.count.trans h.count, h'.own.trans h.own⟩

theorem Course.carries {x y : State} (h : Course x y) : Carries x y :=
  ⟨h.config, h.trips, h.straps, h.counts.1, h.own⟩

theorem Carries.enterRun (x : State) : Carries x x.enterRun := by
  have entered : Carries x x.enteredRun := ⟨rfl, rfl, rfl, rfl, rfl⟩
  rw [State.enterRun_eq, State.startAtEntry_eq]
  exact (entered.trans (Course.checkedRun x).carries).trans ⟨rfl, rfl, rfl, rfl, rfl⟩

theorem Carries.countDiscovery (later : List Later) (x : State) : Carries x (x.countDiscovery later) := by
  have counted : ∀ n, Carries x (x.setStart { x.start with discovery := n }) := fun _ => ⟨rfl, rfl, rfl, rfl, rfl⟩
  unfold State.countDiscovery
  split
  · simp only
    split
    · exact (counted _).trans (.enterRun _)
    · exact counted _
  · exact .refl x

theorem Carries.checkAfterPark (s x : State) : Carries x (s.checkAfterPark x) := by
  unfold State.checkAfterPark
  split
  · have marked : Carries x x.markPopulation := ⟨rfl, rfl, rfl, rfl, rfl⟩
    exact marked.trans ((Works.populationCheck x).trans (.compareQuorum _)).course.carries
  · exact .refl x

theorem Carries.handOver (s x : State) : Carries x (s.handOver x) :=
  ⟨State.handOver_config .., State.handOver_trips .., by rw [State.handOver_start], State.handOver_beaconCount ..,
    by rw [State.handOver_selector]⟩

theorem Carries.finish (s x : State) : Carries x (s.finish x) :=
  ((Course.settle x).carries.trans (.checkAfterPark s _)).trans (.handOver s _)

section
variable (later : List Later) (s : State)

/-- The state before the beacon is built. -/
def State.expiryBuilt : State := ((s.expiryPeers later).selectorPeriod later).presentLine

theorem State.expiryBuilt_course : Course ((s.expiryPeers later).mapOwn countFresh) (s.expiryBuilt later) :=
  Course.expirySelected later s

theorem State.expirySent_eq : s.expirySent later = (s.expiryBuilt later).periodicBeacon := rfl

theorem Carries.periodicBeacon (x : State) : Carries x x.periodicBeacon := ⟨rfl, rfl, rfl, rfl, rfl⟩

theorem Carries.mapOwn_course {x y : State} (h : Course (x.mapOwn countFresh) y) :
    y.config = x.config ∧ y.trips = x.trips ∧ y.start.straps = x.start.straps
      ∧ y.engine.beaconCount = x.engine.beaconCount ∧ y.selector.own = x.selector.own.map countFresh :=
  ⟨h.config, h.trips, h.straps, h.counts.1, h.own⟩

theorem expiryBuilt_carries : (s.expiryBuilt later).config = s.config ∧ (s.expiryBuilt later).trips = s.trips
    ∧ (s.expiryBuilt later).start.straps = s.start.straps
    ∧ (s.expiryBuilt later).engine.beaconCount = s.engine.beaconCount + 1
    ∧ (s.expiryBuilt later).selector.own = s.selector.own.map countFresh := by
  obtain ⟨e, g, eq, count, -⟩ := s.expiryCounted_eq later
  have counted : (s.expiryCounted later).config = s.config ∧ (s.expiryCounted later).trips = s.trips
      ∧ (s.expiryCounted later).start.straps = s.start.straps
      ∧ (s.expiryCounted later).engine.beaconCount = s.engine.beaconCount + 1
      ∧ (s.expiryCounted later).selector.own = s.selector.own := by
    rw [eq]; exact ⟨rfl, rfl, rfl, count, rfl⟩
  obtain ⟨config', trips', straps', beacons', own'⟩ := counted
  obtain ⟨a, -, straps, works⟩ := expiryRoles_base later s
  have given : Carries (s.expiryCounted later) ((s.expiryCounted later).setStart a) :=
    ⟨rfl, rfl, straps.trans straps'.symm, rfl, rfl⟩
  have first := (given.trans works.course.carries).trans (Course.expiryPeers later s).carries
  obtain ⟨config, trips, straps, beacons, own⟩ := Carries.mapOwn_course (State.expiryBuilt_course later s)
  refine ⟨config.trans (first.config.trans config'), trips.trans (first.trips.trans trips'),
    straps.trans (first.straps.trans straps'), beacons.trans (first.count.trans beacons'), own.trans ?_⟩
  rw [first.own, own']

theorem Carries.ended (later : List Later) (s x : State) : Carries x (s.finish (x.periodicBeacon.countDiscovery later)) :=
  ((Carries.periodicBeacon x).trans (.countDiscovery later _)).trans (.finish s _)

/-- From the beacon to the end. -/
theorem State.ownExpiry_built {s : State} (onLine : s.station.onLine = true) :
    s.ownExpiry later = s.finish ((s.expiryBuilt later).periodicBeacon.countDiscovery later) :=
  State.ownExpiry_eq later onLine

theorem Carries.ownExpiry {s : State} (onLine : s.station.onLine = true) :
    Carries (s.expiryBuilt later) (s.ownExpiry later) := by
  rw [State.ownExpiry_built later onLine]; exact .ended later s _

end

/-! ### In RUN -/

/-- The link and supervision stay. -/
def LinkKept (x y : State) : Prop := y.link = x.link ∧ y.supervision = x.supervision

theorem LinkKept.trans {x y z : State} (h : LinkKept x y) (h' : LinkKept y z) : LinkKept x z :=
  ⟨h'.1.trans h.1, h'.2.trans h.2⟩

theorem Course.linkKept {x y : State} (h : Course x y) (hp : x.station ≠ .parking) : LinkKept x y :=
  ⟨h.link_eq hp, h.supervision⟩

/-- A stretch of a handling that keeps to RUN. -/
def InRun (x y : State) : Prop := x.station = .run → y.station = .run ∧ LinkKept x y

theorem InRun.trans {x y z : State} (h : InRun x y) (h' : InRun y z) : InRun x z := fun run => by
  obtain ⟨station, kept⟩ := h run
  obtain ⟨station', kept'⟩ := h' station
  exact ⟨station', kept.trans kept'⟩

theorem Course.inRun {x y : State} (h : Course x y) : InRun x y := fun run => by
  have ne : x.station ≠ .parking := by rw [run]; decide
  exact ⟨(h.station_eq ne).trans run, h.linkKept ne⟩

theorem InRun.mapOwn (x : State) (f : OwnValue → OwnValue) : InRun x (x.mapOwn f) := fun run => ⟨run, rfl, rfl⟩

theorem InRun.periodicBeacon (x : State) : InRun x x.periodicBeacon := fun run => ⟨run, rfl, rfl⟩

theorem InRun.countDiscovery (later : List Later) (x : State) : InRun x (x.countDiscovery later) := fun run => by
  have same : x.countDiscovery later = x := if_neg (by rw [run]; decide)
  rw [same]; exact ⟨run, rfl, rfl⟩

theorem InRun.expiryBuilt (later : List Later) (s : State) : InRun s (s.expiryBuilt later) := by
  obtain ⟨e, g, eq, -⟩ := s.expiryCounted_eq later
  obtain ⟨a, station, -, works⟩ := expiryRoles_base later s
  have given : InRun s ((s.expiryCounted later).setStart a) := fun run => ⟨station.trans run, by rw [eq]; exact ⟨rfl, rfl⟩⟩
  exact ((given.trans (works.course.trans (Course.expiryPeers later s)).inRun).trans (.mapOwn _ countFresh)).trans
    (State.expiryBuilt_course later s).inRun

theorem expiry_link {s : State} (later : List Later) (run : s.station = .run) : LinkKept s (s.ownExpiry later) := by
  have sent := ((InRun.expiryBuilt later s).trans (.periodicBeacon _)).trans (.countDiscovery later _)
  rw [State.ownExpiry_built later (by rw [run]; rfl), State.finish_of_unparked _ (by rw [run]; decide)]
  obtain ⟨-, kept⟩ := (sent.trans (Course.settle _).inRun) run
  exact kept.trans ⟨State.handOver_link .., State.handOver_supervision ..⟩

/-! ### The beacon -/

theorem ownPublished_role (s : State) : s.ownPublished.role = s.start.straps.role := by
  unfold State.ownPublished
  cases s.start.straps.role <;> rfl

/-- A slot that holds a beacon which is neither committed nor a parking beacon, or none, takes the periodic beacon (R21). -/
theorem placeBeacon_of_free {b : Beacon} {h : HeldFrames} (waits : h.parkingWaiting = none)
    (free : ∀ q ∈ h.beacon, q.committed = false ∧ q.frame.beacon.flags.parking = false) :
    h.placeBeacon b = { h with beacon := some (OutBeacon.fresh b) } := by
  unfold HeldFrames.placeBeacon
  rw [waits]
  cases hb : h.beacon with
  | none => rfl
  | some q =>
    obtain ⟨committed, parking⟩ := free q hb
    simp [committed, parking]

/-- The slot, where nothing waits behind it. -/
def SlotHolds (x : State) (q : Option (Queued OutBeacon)) : Prop := x.line.parkingWaiting = none ∧ x.line.beacon = q

theorem SlotHolds.worked {x : State} {o : Option (Queued OutBeacon)} (h : SlotHolds x o) (e : Engine)
    (g : List (Queued Alert) → List (Queued Alert)) : SlotHolds (x.worked e g) o := h

theorem SlotHolds.setStart {x : State} {o : Option (Queued OutBeacon)} (h : SlotHolds x o) (a : StartControl) :
    SlotHolds (x.setStart a) o := h

theorem SlotHolds.mapOwn {x : State} {o : Option (Queued OutBeacon)} (h : SlotHolds x o) (f : OwnValue → OwnValue) :
    SlotHolds (x.mapOwn f) o := h

theorem Course.slotHolds {x y : State} {o : Option (Queued OutBeacon)} (h : Course x y) (hx : SlotHolds x o)
    (plain : ∀ q ∈ o, q.frame.beacon.flags.parking = false) : SlotHolds y o := by
  obtain ⟨waits, beacon⟩ := hx
  obtain ⟨waits', beacon'⟩ := h.slot waits (by rw [beacon]; exact plain)
  exact ⟨waits', beacon'.trans beacon⟩

section
variable {o : Option (Queued OutBeacon)} (plain : ∀ q ∈ o, q.frame.beacon.flags.parking = false)
include plain

theorem SlotHolds.enterRun {x : State} (hx : SlotHolds x o) : SlotHolds x.enterRun o := by
  have entered : SlotHolds x.enteredRun o := hx
  rw [State.enterRun_eq, State.startAtEntry_eq]
  exact (Course.checkedRun x).slotHolds entered plain

theorem SlotHolds.countDiscovery (later : List Later) {x : State} (hx : SlotHolds x o) :
    SlotHolds (x.countDiscovery later) o := by
  have counted : ∀ n, SlotHolds (x.setStart { x.start with discovery := n }) o := fun _ => hx
  unfold State.countDiscovery
  split
  · simp only
    split
    · exact (counted _).enterRun plain
    · exact counted _
  · exact hx

theorem SlotHolds.finish (s : State) {x : State} (hx : SlotHolds x o) : SlotHolds (s.finish x) o := by
  have settled := (Course.settle x).slotHolds hx plain
  have checked : SlotHolds (s.checkAfterPark x.refreshServed.startProbation) o := by
    generalize x.refreshServed.startProbation = u at settled ⊢
    unfold State.checkAfterPark
    split
    · exact ((Works.populationCheck u).trans (.compareQuorum _)).course.slotHolds (x := u.markPopulation) settled plain
    · exact settled
  rw [State.finish, SlotHolds, State.handOver_line]; exact checked

theorem SlotHolds.expiryBuilt (later : List Later) {s : State} (hs : SlotHolds s o) : SlotHolds (s.expiryBuilt later) o := by
  obtain ⟨e, g, eq, -⟩ := s.expiryCounted_eq later
  obtain ⟨a, -, -, works⟩ := expiryRoles_base later s
  have counted : SlotHolds ((s.expiryCounted later).setStart a) o := by
    rw [eq]; exact ((hs.setStart _).worked e g).setStart a
  have peers := (works.course.trans (Course.expiryPeers later s)).slotHolds counted plain
  exact (State.expiryBuilt_course later s).slotHolds (peers.mapOwn countFresh) plain

end

/-- The beacon that is built in `x` (R16). -/
def State.builtBeacon (x : State) : Beacon := x.buildBeacon (decide (x.station = .join)) false

theorem SlotHolds.periodicBeacon {x : State} (waits : x.line.parkingWaiting = none)
    (free : ∀ q ∈ x.line.beacon, q.committed = false ∧ q.frame.beacon.flags.parking = false) :
    SlotHolds x.periodicBeacon (some (OutBeacon.fresh x.builtBeacon)) := by
  have placed := placeBeacon_of_free (b := x.builtBeacon) (h := x.line.toHeldFrames) waits free
  have held : x.periodicBeacon.line.toHeldFrames = x.line.toHeldFrames.placeBeacon x.builtBeacon := rfl
  rw [placed] at held
  exact ⟨(congrArg HeldFrames.parkingWaiting held).trans waits, congrArg HeldFrames.beacon held⟩

/-- The slot is free for the beacon, and still holds it at the end (R21). -/
theorem expiry_slot {s : State} (later : List Later) (onLine : s.station.onLine = true)
    (waits : s.line.parkingWaiting = none)
    (free : ∀ q ∈ s.line.beacon, q.committed = false ∧ q.frame.beacon.flags.parking = false) :
    (s.ownExpiry later).line.beacon = some (OutBeacon.fresh (s.expiryBuilt later).builtBeacon) := by
  have held : SlotHolds s s.line.beacon := ⟨waits, rfl⟩
  rw [State.ownExpiry_built later onLine]
  have built : SlotHolds (s.expiryBuilt later) s.line.beacon := held.expiryBuilt (fun q hq => (free q hq).2) later
  generalize s.expiryBuilt later = x at built
  have plain : ∀ q ∈ some (OutBeacon.fresh x.builtBeacon), q.frame.beacon.flags.parking = false := by
    rintro q hq; cases hq; rfl
  have sent := SlotHolds.periodicBeacon built.1 (by rw [built.2]; exact free)
  exact ((sent.countDiscovery plain later).finish plain s).2

end Sys2Proof.Machine
end

section
/-! What the beacon of an own expiry shows, and the obligation on the own expiry. -/

namespace Sys2Proof.Machine

/-- Where the served values are those of the sources, no peer waits for its probation and the station state is the one of
the beginning, a handling ends with the handover. -/
theorem finish_of_quiet {s y : State} (served : y.resolved = y.selector.served) (queue : y.isolation.queue = [])
    (station : (s.finish y).station = s.station) : s.finish y = s.handOver y := by
  have refreshed : y.refreshServed = y := State.refreshServed_of_resolved served
  have started : y.startProbation = y := State.startProbation_of_running (.inl queue)
  have whole : s.finish y = s.handOver (s.checkAfterPark y) := by rw [State.finish, refreshed, started]
  by_cases h : s.station = .parking ∧ y.station = .run
  · have works := (Works.populationCheck y).trans (.compareQuorum _)
    have run : y.markPopulation.station = .run := h.2
    have checked : s.checkAfterPark y = y.populationCheck.compareQuorum := if_pos h
    rw [whole, State.handOver_station, checked, works.station_eq (by rw [run]; decide), run, h.1] at station
    cases station
  · have unchecked : s.checkAfterPark y = y := if_neg h
    rw [whole, unchecked]

section
variable {s : State} (later : List Later)

theorem Course.queue_nil {x y : State} (h : Course x y) (hx : x.isolation.queue = []) : y.isolation.queue = [] :=
  List.eq_nil_iff_forall_not_mem.2 fun i hi => by
    have mem := h.queue i hi
    rw [hx] at mem; cases mem

theorem expiryBuilt_queue (queue : s.isolation.queue = []) : (s.expiryBuilt later).isolation.queue = [] := by
  obtain ⟨e, g, eq, -⟩ := s.expiryCounted_eq later
  obtain ⟨a, -, -, works⟩ := expiryRoles_base later s
  have counted : (s.expiryCounted later).isolation.queue = [] := by rw [eq]; exact queue
  have given : ((s.expiryCounted later).setStart a).isolation.queue = [] := counted
  have peers := (works.course.trans (Course.expiryPeers later s)).queue_nil given
  have fresh : ∀ x : State, x.isolation.queue = [] → (x.mapOwn countFresh).isolation.queue = [] := fun _ h => h
  exact (State.expiryBuilt_course later s).queue_nil (fresh _ peers)

theorem expiryBuilt_table (table : TableLaw s.engine.records) : TableLaw (s.expiryBuilt later).engine.records := by
  obtain ⟨e, g, eq, -, kept⟩ := s.expiryCounted_eq later
  obtain ⟨a, -, -, works⟩ := expiryRoles_base later s
  have counted : TableLaw (s.expiryCounted later).engine.records := by rw [eq]; exact kept table
  have given : TableLaw ((s.expiryCounted later).setStart a).engine.records := counted
  have peers := (works.course.trans (Course.expiryPeers later s)).table given
  have fresh : ∀ x : State, TableLaw x.engine.records → TableLaw (x.mapOwn countFresh).engine.records := fun _ h => h
  exact (State.expiryBuilt_course later s).table (fresh _ peers)

/-- Only start control and the line are given anew. -/
structure StationKept (x y : State) : Prop where
  isolation : y.isolation = x.isolation
  engine : y.engine = x.engine

/-- From the beacon to the end, where the station state stays (R8, R146). -/
theorem ended_of_still {x : State} (served : x.periodicBeacon.resolved = x.periodicBeacon.selector.served)
    (queue : x.isolation.queue = []) (join : x.station = .join → s.station = .join)
    (station : (s.finish (x.periodicBeacon.countDiscovery later)).station = s.station) :
    ∃ y, StationKept x y ∧ s.finish (x.periodicBeacon.countDiscovery later) = s.handOver y := by
  let n := addSat Config.joinPeriods x.periodicBeacon.start.discovery 1
  let u := x.periodicBeacon.setStart { x.periodicBeacon.start with discovery := n }
  have counted : x.station = .join → x.periodicBeacon.countDiscovery later = u := fun hx => by
    unfold State.countDiscovery at station ⊢
    rw [if_pos (show x.periodicBeacon.station = .join from hx)] at station ⊢
    simp only at station ⊢
    split
    next enters =>
      rw [if_pos enters, entered_station (s0 := s) (by rw [join hx]; decide) rfl, join hx] at station
      cases station
    next => rfl
  by_cases hx : x.station = .join
  · rw [counted hx] at station ⊢
    refine ⟨u, ⟨rfl, rfl⟩, finish_of_quiet ((x.periodicBeacon.setDiscovery_resolved n).trans served) queue station⟩
  · have still : x.periodicBeacon.countDiscovery later = x.periodicBeacon := if_neg hx
    rw [still] at station ⊢
    exact ⟨x.periodicBeacon, ⟨rfl, rfl⟩, finish_of_quiet served queue station⟩

theorem State.ownPublished_congr {x y : State} (straps : y.start.straps = x.start.straps)
    (own : y.selector.own = x.selector.own) : y.ownPublished = x.ownPublished := by
  have carried : ∀ q, y.carried q = x.carried q := fun q => by rw [carried, ownValue, own]; rfl
  simp only [ownPublished, straps, carried]

/-- A beacon shows the station as a later state has it, where isolation unit, engine and own values are still the same. -/
theorem builtBeacon_shows {x t : State} (carries : Carries x t) (own : t.isolation.own = x.isolation.own)
    (records : t.engine.records = x.engine.records) (cl : t.engine.cl = x.engine.cl) (table : TableLaw x.engine.records) :
    x.builtBeacon.flags.rejoin = decide (t.isolation.own = .rejoining)
      ∧ x.builtBeacon.flags.isolated = decide (t.isolation.own ≠ .active)
      ∧ x.builtBeacon.ownLevel = t.ownLevel ∧ x.builtBeacon.posture = t.posture ∧ x.builtBeacon.cl = t.engine.cl
      ∧ x.builtBeacon.published = t.ownPublished ∧ ClaimsOf t x.builtBeacon.claims := by
  refine ⟨?_, ?_, ?_, ?_, cl.symm, (State.ownPublished_congr carries.straps carries.own).symm, claimsOf_claims table records⟩
  · rw [own]; rfl
  · rw [own]; rfl
  · rw [State.ownLevel, records]; rfl
  · rw [State.posture, own, cl]; rfl

/-- What the beacon shows of the station is what the expiry leaves (R16, R91, R103, R104). -/
theorem beacon_shows (onLine : s.station.onLine = true) (station : (s.ownExpiry later).station = s.station)
    (queue : s.isolation.queue = []) (law : EngineLaw s) :
    let t := s.ownExpiry later
    let b := (s.expiryBuilt later).builtBeacon
    b.flags.rejoin = decide (t.isolation.own = .rejoining) ∧ b.flags.isolated = decide (t.isolation.own ≠ .active)
      ∧ b.ownLevel = t.ownLevel ∧ b.posture = t.posture ∧ b.cl = t.engine.cl ∧ b.published = t.ownPublished
      ∧ ClaimsOf t b.claims := by
  intro t b
  have carries : Carries (s.expiryBuilt later) t := Carries.ownExpiry later onLine
  have served := expirySent_served_of_onLine later onLine
  have join := expirySent_join later onLine
  rw [State.expirySent_eq] at served join
  rw [State.periodicBeacon_station] at join
  rw [State.ownExpiry_built later onLine] at station
  obtain ⟨y, ⟨isolation, engine⟩, eq⟩ := ended_of_still later served (expiryBuilt_queue later queue) join station
  have ended : t = s.handOver y := (State.ownExpiry_built later onLine).trans eq
  have own : t.isolation.own = (s.expiryBuilt later).isolation.own := by
    rw [ended, State.handOver_isolation_own, isolation]
  have records : t.engine.records = (s.expiryBuilt later).engine.records := by rw [ended, State.handOver_records, engine]
  have cl : t.engine.cl = (s.expiryBuilt later).engine.cl := by rw [ended, State.handOver_cl, engine]
  exact builtBeacon_shows carries own records cl (expiryBuilt_table later law.1)

end

/-! ### The obligation -/

theorem countFresh_eq (x : OwnValue) : countFresh x =
    if x.valid then { x with fresh := min 4 (x.fresh + 1), valid := decide (x.fresh + 1 < 4) } else x := by
  unfold countFresh
  cases x.valid with
  | false => rfl
  | true =>
    have same : decide (min 4 (x.fresh + 1) < 4) = decide (x.fresh + 1 < 4) := decide_eq_decide.2 (by omega)
    show { x with fresh := min 4 (x.fresh + 1), valid := decide (min 4 (x.fresh + 1) < 4) } = _
    rw [same]; rfl

theorem expiryBuilt_onLine {s : State} (later : List Later) (onLine : s.station.onLine = true) :
    (s.expiryBuilt later).station.onLine = true := by
  have peers := (Course.expiryPeers later s).onLine.trans (expiryRoles_station_onLine later onLine)
  have built := (State.expiryBuilt_course later s).onLine
  rw [State.mapOwn_station] at built
  exact built.trans peers

/-- The beacon carries JOINING in JOIN (R16). -/
theorem built_joining {s : State} (later : List Later) (onLine : s.station.onLine = true) :
    decide ((s.expiryBuilt later).station = .join) = decide (s.station = .join) := by
  have riding := expirySent_riding later s
  have join := expirySent_join later onLine
  rw [State.expirySent_eq, State.periodicBeacon_station] at riding join
  have built := expiryBuilt_onLine later onLine
  refine decide_eq_decide.2 ⟨join, fun hs => ?_⟩
  rw [hs] at riding
  revert riding built
  cases (s.expiryBuilt later).station <;> decide

/-- The fields of a beacon as it joins the slot (R16, R21). -/
theorem builtBeacon_fields (x : State) :
    (OutBeacon.fresh x.builtBeacon).attempt = 1 ∧ (OutBeacon.fresh x.builtBeacon).committed = false
      ∧ (OutBeacon.fresh x.builtBeacon).frame.numbered = false ∧ x.builtBeacon.sender = x.own
      ∧ x.builtBeacon.period = x.config.period ∧ x.builtBeacon.published.role = x.start.straps.role
      ∧ x.builtBeacon.flags.joining = decide (x.station = .join) ∧ x.builtBeacon.flags.parking = false :=
  ⟨rfl, rfl, rfl, rfl, rfl, ownPublished_role x, rfl, rfl⟩

/-- Settles O31, by the stretches of the own expiry up to the beacon, the beacon itself and the end of the handling. -/
theorem ownExpiryBuildsABeacon : Obligations.OwnExpiryBuildsABeacon := by
  intro later s
  refine ⟨fun onLine => ?_, fun offLine => congrArg Host.Outcome.next (if_neg (by rw [offLine]; decide))⟩
  obtain ⟨config, trips, straps, count, own⟩ := expiryBuilt_carries later s
  have carries := Carries.ownExpiry later onLine
  obtain ⟨attempt, committed, numbered, sender, period, role, joining, parking⟩ :=
    builtBeacon_fields (s.expiryBuilt later)
  have number : (s.expiryBuilt later).own = s.own := by rw [State.own, straps]; rfl
  refine ⟨s.ownExpiry later, rfl, carries.config.trans config, carries.trips.trans trips, expiry_link later,
    (expiry_population later onLine).2, carries.count.trans count, ?_, ?_, presented_ownExpiry later onLine,
    fun waits free => ⟨_, expiry_slot later onLine waits free, attempt, committed, numbered, sender.trans number,
      period.trans (congrArg ConfigSet.period config), role.trans (congrArg Straps.role straps),
      joining.trans (built_joining later onLine), parking, beacon_shows later onLine⟩⟩
  · rw [carries.own, own]
    exact congrArg (List.map · s.selector.own) (funext countFresh_eq)
  · rw [State.ownExpiry_eq later onLine]; exact PinsFollow.drivePins _

end Sys2Proof.Machine
end

section
/-! What the parts of a handling keep of the laws of the peer view, the rejoin queue, the readmit-owed list and the
selector. -/

namespace Sys2Proof.Machine

/-- The own entry is as a reset leaves it, and the rejoin queue is in order. -/
def PeersFit (s : State) : Prop := OwnEntryLaw s ∧ RejoinLaw s

/-- The band is UNKNOWN while the speed check is disputed or the served speed is unavailable (R70). -/
def BandFits (x : Selector) : Prop := x.speedDisputed = true ∨ x.served.speed = none → x.band = .unknown

/-- The laws that hold within a handling too. -/
structure Upholds (s t : State) : Prop where
  peers : PeersFit s → PeersFit t
  scores : ScoresFit s → ScoresFit t
  owed : OwedLaw s → OwedLaw t
  selector : SelectorLaw s → SelectorLaw t
  conditions : ConditionsLaw s → ConditionsLaw t

theorem Upholds.refl (s : State) : Upholds s s := ⟨id, id, id, id, id⟩

theorem Upholds.trans {s t u : State} (h : Upholds s t) (h' : Upholds t u) : Upholds s u :=
  ⟨h'.peers ∘ h.peers, h'.scores ∘ h.scores, h'.owed ∘ h.owed, h'.selector ∘ h.selector, h'.conditions ∘ h.conditions⟩

theorem Upholds.foldl {α : Type} {f : State → α → State} (h : ∀ s a, Upholds s (f s a)) (l : List α) :
    ∀ s, Upholds s (l.foldl f s) := by
  induction l with
  | nil => exact .refl
  | cons a l ih => exact fun s => (h s a).trans (ih _)

/-! ### From what each law is read -/

theorem PeersFit.congr {s t : State} (peers : t.peers = s.peers) (straps : t.start.straps = s.start.straps)
    (queue : t.isolation.queue = s.isolation.queue) (probation : t.isolation.probation = s.isolation.probation)
    (h : PeersFit s) : PeersFit t := by
  simpa only [PeersFit, OwnEntryLaw, RejoinLaw, State.peer, State.own, peers, straps, queue, probation] using h

theorem ScoresFit.congr {s t : State} (peers : t.peers = s.peers) (h : ScoresFit s) : ScoresFit t := by
  simpa only [ScoresFit, State.peer, peers] using h

theorem OwedLaw.congr {s t : State} (peers : t.peers = s.peers) (owed : t.isolation.owed = s.isolation.owed)
    (h : OwedLaw s) : OwedLaw t := by
  simpa only [OwedLaw, State.peer, peers, owed] using h

theorem SelectorLaw.congr {s t : State} (straps : t.start.straps = s.start.straps)
    (own : t.selector.own.map OwnValue.quantity = s.selector.own.map OwnValue.quantity)
    (band : BandFits s.selector → BandFits t.selector) (h : SelectorLaw s) : SelectorLaw t :=
  ⟨own.trans (h.1.trans (by rw [straps])), band h.2⟩

/-- A step that leaves alone whatever these laws are read from; the station may stop to ride. -/
theorem Upholds.of_same {s t : State} (peers : t.peers = s.peers) (straps : t.start.straps = s.start.straps)
    (queue : t.isolation.queue = s.isolation.queue) (probation : t.isolation.probation = s.isolation.probation)
    (owed : t.isolation.owed = s.isolation.owed) (selector : t.selector = s.selector)
    (riding : t.station.riding = true → s.station.riding = true) : Upholds s t :=
  ⟨.congr peers straps queue probation, .congr peers, .congr peers owed,
    .congr straps (by rw [selector]) (by rw [selector]; exact id), fun h hr => by rw [selector]; exact h (riding hr)⟩

theorem Works.upholds {s t : State} (h : Works s t) : Upholds s t := by
  obtain ⟨queue, probation, -, owed⟩ := h.isolation
  exact .of_same h.peers h.straps queue probation owed h.selector (by rw [h.riding]; exact id)

/-- Another value of the selector. -/
theorem Upholds.setSelector {s : State} {x : Selector}
    (own : x.own.map OwnValue.quantity = s.selector.own.map OwnValue.quantity)
    (band : BandFits s.selector → BandFits x)
    (conditions : s.station.riding = true → ConditionsFit s.selector → ConditionsFit x) : Upholds s (s.setSelector x) :=
  ⟨.congr rfl rfl rfl rfl, .congr rfl, .congr rfl rfl, .congr rfl own band, fun h hr => conditions hr (h hr)⟩

theorem Upholds.handOver (s0 s : State) : Upholds s (s0.handOver s) :=
  .of_same (s0.handOver_peers s) (by rw [s0.handOver_start]) (s0.handOver_queue s) (s0.handOver_probation s)
    (s0.handOver_owed s) (s0.handOver_selector s) (by rw [s0.handOver_station]; exact id)

/-! ### Entries -/

/-- The entry of peer `i` may become `e'` without a change of the rejoin queue. -/
structure EntryFits (s : State) (i : Station) (e' : PeerEntry) : Prop where
  foreign : (s.peer i).state ≠ .absent ∨ i ≠ s.own
  down : (s.peer i).state.down = true → e'.state.down = true
  probation : e'.state = .probation ↔ (s.peer i).state = .probation
  score : (s.peer i).score ≤ 255 → e'.score ≤ 255

theorem PeersFit.foreign {s : State} (h : PeersFit s) {i : Station} (hi : (s.peer i).state ≠ .absent ∨ i ≠ s.own) :
    i ≠ s.own := by
  rintro rfl
  rcases hi with hi | hi
  · rw [h.1.1] at hi; exact hi rfl
  · exact hi rfl

theorem State.peer_of_set {s t : State} {i : Station} {e : PeerEntry} (h : t.peers = s.peers.set i e) (j : Station) :
    t.peer j = if j = i then e else s.peer j := by
  rw [State.peer, h, Six.get_set]; rfl

theorem State.entered_peer (s : State) (i : Station) (e' : PeerEntry) (j : Station) :
    (s.entered i e').peer j = if j = i then e' else s.peer j := State.peer_of_set (s.entered_peers i e') j

theorem State.entered_start (s : State) (i : Station) (e' : PeerEntry) : (s.entered i e').start = s.start := by
  unfold entered leaveOwed; split <;> rfl

theorem State.entered_own (s : State) (i : Station) (e' : PeerEntry) : (s.entered i e').own = s.own := by
  rw [State.own, s.entered_start]; rfl

/-- A peer leaves the readmit-owed list with LIVE and SUSPECT, whatever its entry becomes (R152). -/
theorem OwedLaw.entered {s : State} (h : OwedLaw s) (i : Station) (e' : PeerEntry) : OwedLaw (s.entered i e') := by
  obtain ⟨ascending, trusted⟩ := h
  rw [OwedLaw, s.entered_isolation]
  by_cases leaves : ((s.peer i).state.trusted && !e'.state.trusted) = true
  · rw [if_pos leaves]
    refine ⟨ascending.filter _, fun j hj => ?_⟩
    obtain ⟨hj, hne⟩ := List.mem_filter.1 hj
    rw [s.entered_peer, if_neg (by simpa using hne)]
    exact trusted j hj
  · rw [if_neg leaves]
    refine ⟨ascending, fun j hj => ?_⟩
    rw [s.entered_peer]
    split
    next hji =>
      subst hji
      rw [trusted j hj] at leaves
      simpa using leaves
    next => exact trusted j hj

theorem ScoresFit.entered {s : State} {i : Station} {e' : PeerEntry} (h : ScoresFit s)
    (he : (s.peer i).score ≤ 255 → e'.score ≤ 255) : ScoresFit (s.entered i e') := by
  intro j
  rw [s.entered_peer]
  split
  · exact he (h i)
  · exact h j

theorem PeersFit.entered {s : State} {i : Station} {e' : PeerEntry} (h : PeersFit s) (he : EntryFits s i e') :
    PeersFit (s.entered i e') := by
  have foreign := h.foreign he.foreign
  obtain ⟨⟨own, notQueued, notOnProbation⟩, nodup, down, head, record⟩ := h
  have isolation := s.entered_isolation i e'
  refine ⟨⟨?_, ?_, ?_⟩, ?_, ?_, ?_, ?_⟩
  · rw [s.entered_own, s.entered_peer, if_neg (Ne.symm foreign)]; exact own
  · rw [s.entered_own, isolation]; exact notQueued
  · rw [s.entered_own, isolation]; exact notOnProbation
  · rw [isolation]; exact nodup
  · rw [isolation]
    intro j hj
    rw [s.entered_peer]
    split
    next hji => exact he.down (down i (hji ▸ hj))
    next => exact down j hj
  · rw [isolation]
    intro p hp
    obtain ⟨first, onProbation⟩ := head p hp
    refine ⟨first, ?_⟩
    rw [s.entered_peer]
    split
    next hpi => exact he.probation.2 (hpi ▸ onProbation)
    next => exact onProbation
  · rw [isolation]
    intro j hj
    rw [s.entered_peer] at hj
    split at hj
    next hji => exact hji ▸ record i (he.probation.1 hj)
    next => exact record j hj

theorem State.entered_station (s : State) (i : Station) (e' : PeerEntry) : (s.entered i e').station = s.station := by
  rw [State.station, s.entered_start]; rfl

theorem Upholds.entered {s : State} {i : Station} {e' : PeerEntry} (h : EntryFits s i e') :
    Upholds s (s.entered i e') where
  peers hs := hs.entered h
  scores hs := hs.entered h.score
  owed hs := hs.entered i e'
  selector := .congr (by rw [s.entered_start]) (by rw [s.entered_selector]) (by rw [s.entered_selector]; exact id)
  conditions hs := by rw [ConditionsLaw, s.entered_station, s.entered_selector]; exact hs

theorem Upholds.updatePeer {s : State} {i : Station} {e' : PeerEntry} (h : EntryFits s i e') :
    Upholds s (s.updatePeer i e') := (Upholds.entered h).trans (Works.updatePeer s i e').upholds

theorem Upholds.hearPeer {s : State} {i : Station} {e' : PeerEntry} (h : EntryFits s i e') :
    Upholds s (s.hearPeer i e') := (Upholds.entered h).trans (Works.hearPeer s i e').upholds

/-- An entry set alone, its trust as it was. -/
theorem Upholds.setPeer {s : State} {i : Station} {e' : PeerEntry} (h : EntryFits s i e')
    (trust : e'.state.trusted = (s.peer i).state.trusted) : Upholds s (s.setPeer i e') := by
  have same : s.entered i e' = s.setPeer i e' := by
    rw [State.entered, State.leaveOwed, trust]
    exact if_neg (by cases (s.peer i).state.trusted <;> decide)
  rw [← same]; exact .entered h

/-- An entry that keeps its state. -/
theorem EntryFits.of_state {s : State} {i : Station} {e' : PeerEntry} (state : e'.state = (s.peer i).state)
    (foreign : (s.peer i).state ≠ .absent) (score : (s.peer i).score ≤ 255 → e'.score ≤ 255) : EntryFits s i e' :=
  ⟨.inl foreign, by rw [state]; exact id, by rw [state], score⟩

/-- An entry that comes into or stays in a state without probation. -/
theorem EntryFits.of_trusted {s : State} {i : Station} {e' : PeerEntry} (old : (s.peer i).state.trusted = true)
    (new : e'.state ≠ .probation) (score : (s.peer i).score ≤ 255 → e'.score ≤ 255) : EntryFits s i e' := by
  refine ⟨.inl ?_, ?_, ⟨fun h => absurd h new, ?_⟩, score⟩ <;>
    cases hs : (s.peer i).state <;> simp_all [EntryState.trusted, EntryState.down]

theorem PeerEntry.thresholds_score (e : PeerEntry) : e.thresholds.score = e.score := by
  unfold thresholds; repeat' split
  all_goals rfl

/-- The thresholds move an entry between LIVE and SUSPECT alone (R47). -/
theorem PeerEntry.thresholds_state (e : PeerEntry) :
    e.thresholds.state.down = e.state.down ∧ (e.thresholds.state = .probation ↔ e.state = .probation) := by
  unfold thresholds
  cases hs : e.state <;> simp only
  case live => split <;> simp [hs, EntryState.down]
  case suspect => split <;> simp [hs, EntryState.down]
  all_goals simp [hs]

theorem EntryFits.thresholds {s : State} {i : Station} {e' : PeerEntry} (h : EntryFits s i e') :
    EntryFits s i e'.thresholds := by
  obtain ⟨down, probation⟩ := e'.thresholds_state
  exact ⟨h.foreign, by rw [down]; exact h.down, probation.trans h.probation, by rw [e'.thresholds_score]; exact h.score⟩

theorem EntryFits.muted {s : State} {i : Station} (h : (s.peer i).state.trusted = true) (r : MuteReason) (n : Nat) :
    EntryFits s i ((s.peer i).muted r n) := .of_trusted h nofun fun _ => Nat.zero_le _

theorem Upholds.reportScore (s : State) (i : Station) : Upholds s (s.reportScore i) := by
  unfold State.reportScore; simp only; split
  next h => exact .updatePeer (.muted h.2.1 _ _)
  next => exact .refl s

theorem Upholds.reportSelfContained (s : State) (i : Station) : Upholds s (s.reportSelfContained i) := by
  unfold State.reportSelfContained; simp only; split
  next h => exact .updatePeer (.muted h.2.1 _ _)
  next => exact .refl s

theorem Upholds.updateScored {s : State} {i : Station} {e' : PeerEntry} (h : EntryFits s i e') :
    Upholds s (s.updateScored i e') := (Upholds.updatePeer h.thresholds).trans (.reportScore _ i)

theorem Upholds.hearScored {s : State} {i : Station} {e' : PeerEntry} (h : EntryFits s i e') :
    Upholds s (s.hearScored i e') := (Upholds.hearPeer h.thresholds).trans (.reportScore _ i)

theorem addSat_le (limit n k : Nat) : addSat limit n k ≤ limit := Nat.min_le_left _ _

theorem EntryFits.charge {s : State} {i : Station} (h : (s.peer i).state ≠ .absent) (n : Nat) :
    EntryFits s i ((s.peer i).charge n) := .of_state rfl h fun _ => addSat_le _ _ _

theorem ne_absent_of_trusted {x : EntryState} (h : x.trusted = true) : x ≠ .absent := by
  rintro rfl; exact nomatch h

theorem ne_absent_of_down {x : EntryState} (h : x.down = true) : x ≠ .absent := by
  rintro rfl; exact nomatch h

theorem Upholds.crossCharge (s : State) (i : Station) : Upholds s (s.crossCharge i) := by
  unfold State.crossCharge; simp only; split
  next h => exact .updateScored (.charge (ne_absent_of_trusted h) _)
  next => exact .refl s

theorem PeerEntry.aged_state (e : PeerEntry) : e.aged.state = e.state := by
  unfold aged; split <;> rfl

theorem PeerEntry.aged_score_le (e : PeerEntry) (h : e.score ≤ 255) : e.aged.score ≤ 255 := by
  unfold aged
  split
  · exact h
  · show (if _ then _ else _) ≤ 255
    split
    · exact addSat_le _ _ _
    · exact h

theorem EntryFits.aged {s : State} {i : Station} (h : (s.peer i).state ≠ .absent) : EntryFits s i (s.peer i).aged :=
  .of_state (PeerEntry.aged_state _) h (PeerEntry.aged_score_le _)

theorem scoreAfter_le (n : Nat) (c : SeqClass) : scoreAfter n c ≤ 255 :=
  (Nat.sub_le _ _).trans (addSat_le _ _ _)

end Sys2Proof.Machine
end

section
/-! What the isolation unit does with its peers: the CEASE a muted peer is owed, the rejoin queue, the start and the
three ends of a probation, and the READMITs that are owed. -/

namespace Sys2Proof.Machine

/-! ### Muted peers and the rejoin queue -/

theorem Upholds.giveDirective (s : State) (d : Directive) : Upholds s (s.giveDirective d) :=
  .of_same rfl rfl rfl rfl rfl rfl id

theorem Upholds.giveCease (s : State) (i : Station) : Upholds s (s.giveCease i) := by
  unfold State.giveCease; simp only
  split
  next h =>
    have given : ∀ u : State, u.peer i = s.peer i →
        Upholds u (u.setPeer i { s.peer i with ceasePending := false }) := fun u hu =>
      .setPeer (.of_state (by rw [hu]) (by rw [hu, h.1]; nofun) (by rw [hu]; exact id)) (by rw [hu])
    split
    · exact .refl s
    · exact (Upholds.giveDirective s _).trans (given _ rfl)
    · exact given s rfl
  next => exact .refl s

theorem Upholds.countMuted (s : State) (i : Station) : Upholds s (s.countMuted i) := by
  unfold State.countMuted; simp only
  split
  next h =>
    have counted : Upholds s (s.setPeer i { s.peer i with frames := addSat 255 (s.peer i).frames 1 }) :=
      .setPeer (.of_state rfl (by rw [h]; nofun) id) rfl
    exact counted.trans (.giveCease _ i)
  next => exact .refl s

/-- A peer that is down joins the rejoin queue (R146). -/
theorem Upholds.enqueueRejoin {s : State} {i : Station} (h : (s.peer i).state.down = true) :
    Upholds s (s.enqueueRejoin i) := by
  unfold State.enqueueRejoin
  split
  next => exact .refl s
  next fresh =>
    have fresh : i ∉ s.isolation.queue := by simpa using fresh
    refine ⟨fun hs => ?_, .congr rfl, .congr rfl rfl, .congr rfl rfl id, id⟩
    have foreign := hs.foreign (.inl (ne_absent_of_down h))
    obtain ⟨⟨own, notQueued, notOnProbation⟩, nodup, down, head, record⟩ := hs
    refine ⟨⟨own, ?_, notOnProbation⟩, ?_, ?_, ?_, record⟩
    · show s.own ∉ s.isolation.queue ++ [i]
      simp [notQueued, Ne.symm foreign]
    · show (s.isolation.queue ++ [i]).Nodup
      exact List.nodup_append.2 ⟨nodup, List.nodup_singleton i, by
        rintro j hj k hk rfl; exact fresh (List.mem_singleton.1 hk ▸ hj)⟩
    · intro j hj
      rcases List.mem_append.1 hj with hj | hj
      · exact down j hj
      · exact List.mem_singleton.1 hj ▸ h
    · intro p hp
      obtain ⟨first, onProbation⟩ := head p hp
      refine ⟨?_, onProbation⟩
      show (s.isolation.queue ++ [i]).head? = _
      rw [List.head?_append, first]; rfl

/-! ### The start of a probation -/

/-- The record of a probation that starts (R147). -/
def State.onTrial (s : State) (i : Station) : State :=
  s.setIsolation { s.isolation with
    probation := some { station := i, origin := originFrom (s.peer i).state, clean := 0 } }

/-- A probation starts only where none runs and a peer waits. -/
theorem State.startProbation_cases (s : State) : s.startProbation = s
    ∨ ∃ i rest, s.isolation.probation = none ∧ s.isolation.queue = i :: rest
      ∧ s.startProbation = (s.onTrial i).updatePeer i (s.peer i).onProbation := by
  unfold startProbation
  split
  · split
    next hp hq => exact .inr ⟨_, _, hp, hq, rfl⟩
    next => exact .inl rfl
  · exact .inl rfl

theorem PeersFit.onTrial {s : State} {i : Station} {rest : List Station} (h : PeersFit s)
    (none : s.isolation.probation = none) (queue : s.isolation.queue = i :: rest) :
    PeersFit ((s.onTrial i).entered i (s.peer i).onProbation) := by
  obtain ⟨⟨own, notQueued, notOnProbation⟩, nodup, down, head, record⟩ := h
  have foreign : s.own ≠ i := by
    rintro rfl; rw [queue] at notQueued; exact notQueued (List.mem_cons_self ..)
  have isolation := (s.onTrial i).entered_isolation i (s.peer i).onProbation
  have peer := (s.onTrial i).entered_peer i (s.peer i).onProbation
  have onTrial : ∀ j, (s.onTrial i).peer j = s.peer j := fun _ => rfl
  refine ⟨⟨?_, ?_, ?_⟩, ?_, ?_, ?_, ?_⟩
  · rw [State.entered_own, peer, if_neg (show (s.onTrial i).own ≠ i from foreign)]; exact own
  · rw [State.entered_own, isolation]; exact notQueued
  · rw [State.entered_own, isolation]
    intro p hp
    cases Option.some.inj hp
    exact Ne.symm foreign
  · rw [isolation]; exact nodup
  · rw [isolation]
    intro j hj
    rw [peer]
    split
    · rfl
    · exact down j hj
  · rw [isolation]
    intro p hp
    cases Option.some.inj hp
    refine ⟨by show s.isolation.queue.head? = _; rw [queue]; rfl, ?_⟩
    rw [peer, if_pos rfl]; rfl
  · rw [isolation]
    intro j hj
    refine ⟨_, rfl, ?_⟩
    by_contra hne
    rw [peer, if_neg (Ne.symm hne), onTrial] at hj
    obtain ⟨p, hp, -⟩ := record j hj
    rw [none] at hp
    exact nomatch hp

theorem Upholds.startProbation (s : State) : Upholds s s.startProbation := by
  obtain same | ⟨i, rest, none, queue, started⟩ := s.startProbation_cases
  · rw [same]; exact .refl s
  rw [started]
  refine Upholds.trans ?_ (Works.updatePeer _ i _).upholds
  have selector : ((s.onTrial i).entered i (s.peer i).onProbation).selector = s.selector := by
    rw [State.entered_selector]; rfl
  have station : ((s.onTrial i).entered i (s.peer i).onProbation).station = s.station := by
    rw [State.entered_station]; rfl
  have owed : OwedLaw s → OwedLaw (s.onTrial i) := .congr rfl rfl
  exact ⟨fun h => h.onTrial none queue, fun h => ScoresFit.entered (s := s.onTrial i) h id,
    fun h => (owed h).entered i _, .congr (by rw [State.entered_start]; rfl) (by rw [selector]) (by rw [selector]; exact id),
    fun h hr => by rw [selector]; exact h (by rw [← station]; exact hr)⟩

/-! ### The ends of a probation -/

/-- The peer in probation leaves it and the rejoin queue (R146). -/
theorem PeersFit.endProbation {s : State} {i : Station} {e' : PeerEntry} (h : PeersFit s)
    (on : (s.peer i).state = .probation) (left : e'.state ≠ .probation) :
    PeersFit ((s.entered i e').endProbation i) := by
  have foreign := h.foreign (.inl (by rw [on]; nofun))
  obtain ⟨⟨own, notQueued, -⟩, nodup, down, head, record⟩ := h
  obtain ⟨p, hp, rfl⟩ := record i on
  have queue : ((s.entered p.station e').endProbation p.station).isolation.queue
      = s.isolation.queue.filter fun j => j != p.station := by
    rw [State.endProbation, State.setIsolation_isolation, s.entered_isolation]
  have peer : ∀ j, ((s.entered p.station e').endProbation p.station).peer j = if j = p.station then e' else s.peer j :=
    s.entered_peer p.station e'
  have ownSame : ((s.entered p.station e').endProbation p.station).own = s.own := s.entered_own p.station e'
  refine ⟨⟨?_, ?_, nofun⟩, ?_, ?_, nofun, ?_⟩
  · rw [ownSame, peer, if_neg (Ne.symm foreign)]; exact own
  · rw [ownSame, queue]; exact fun hm => notQueued (List.mem_filter.1 hm).1
  · rw [queue]; exact nodup.filter _
  · intro j hj
    rw [queue] at hj
    obtain ⟨hj, hne⟩ := List.mem_filter.1 hj
    rw [peer, if_neg (by simpa using hne)]
    exact down j hj
  · intro j hj
    exfalso
    rw [peer] at hj
    split at hj
    · exact left hj
    next hne =>
      obtain ⟨q, hq, rfl⟩ := record j hj
      rw [hp] at hq
      exact hne (congrArg Probation.station (Option.some.inj hq)).symm

/-- A probation ends, whatever the entry becomes (R149, R150, R152). -/
theorem Upholds.endProbation {s : State} {i : Station} {e' : PeerEntry}
    (on : PeersFit s → (s.peer i).state = .probation) (left : e'.state ≠ .probation) (score : (s.peer i).score ≤ 255 →
      e'.score ≤ 255) : Upholds s ((s.updatePeer i e').endProbation i) := by
  have works := Works.updatePeer s i e'
  have selector : ((s.updatePeer i e').endProbation i).selector = s.selector := by
    show (s.updatePeer i e').selector = _; rw [works.selector, s.entered_selector]
  have straps : ((s.updatePeer i e').endProbation i).start.straps = s.start.straps := by
    show (s.updatePeer i e').start.straps = _; rw [works.straps, s.entered_start]
  have riding : ((s.updatePeer i e').endProbation i).station.riding = s.station.riding := by
    show (s.updatePeer i e').station.riding = _; rw [works.riding, s.entered_station]
  obtain ⟨queue, probation, -, owed⟩ := works.isolation
  refine ⟨fun h => ?_, fun h => ?_, fun h => ?_, .congr straps (by rw [selector]) (by rw [selector]; exact id),
    fun h hr => by rw [selector]; exact h (by rw [← riding]; exact hr)⟩
  · refine PeersFit.congr (s := (s.entered i e').endProbation i) works.peers works.straps ?_ rfl
      (h.endProbation (on h) left)
    exact congrArg (List.filter fun j => j != i) queue
  · exact (h.entered score).congr works.peers
  · exact (h.entered i e').congr works.peers owed

theorem Upholds.failProbation {s : State} {i : Station} (on : PeersFit s → (s.peer i).state = .probation) :
    Upholds s (s.failProbation i) := .endProbation on nofun fun _ => Nat.zero_le _

theorem Upholds.abandonProbation {s : State} {i : Station} (on : PeersFit s → (s.peer i).state = .probation) :
    Upholds s (s.abandonProbation i) := .endProbation on nofun id

/-! ### READMITs that are owed -/

/-- From `s` to `t` nothing that these laws read has changed but the readmit-owed list. -/
structure OwedOnly (s t : State) : Prop where
  peers : t.peers = s.peers
  straps : t.start.straps = s.start.straps
  queue : t.isolation.queue = s.isolation.queue
  probation : t.isolation.probation = s.isolation.probation
  selector : t.selector = s.selector
  station : t.station = s.station

theorem OwedOnly.refl (s : State) : OwedOnly s s := ⟨rfl, rfl, rfl, rfl, rfl, rfl⟩

theorem OwedOnly.trans {s t u : State} (h : OwedOnly s t) (h' : OwedOnly t u) : OwedOnly s u :=
  ⟨h'.peers.trans h.peers, h'.straps.trans h.straps, h'.queue.trans h.queue, h'.probation.trans h.probation,
    h'.selector.trans h.selector, h'.station.trans h.station⟩

theorem OwedOnly.upholds {s t : State} (h : OwedOnly s t) (owed : OwedLaw s → OwedLaw t) : Upholds s t :=
  ⟨.congr h.peers h.straps h.queue h.probation, .congr h.peers, owed,
    .congr h.straps (by rw [h.selector]) (by rw [h.selector]; exact id),
    fun hs hr => by rw [h.selector]; exact hs (by rw [← h.station]; exact hr)⟩

theorem OwedOnly.giveReadmit (s : State) (i : Station) : OwedOnly s (s.giveReadmit i) := by
  unfold State.giveReadmit
  split <;> exact ⟨rfl, rfl, rfl, rfl, rfl, rfl⟩

/-- A READMIT is given to a peer that is LIVE or SUSPECT (R152). -/
theorem OwedLaw.giveReadmit {s : State} {i : Station} (h : OwedLaw s) (hi : (s.peer i).state.trusted = true) :
    OwedLaw (s.giveReadmit i) := by
  have given : (s.isolation.owed.filter fun j => j != i).Pairwise (· < ·)
      ∧ ∀ j ∈ s.isolation.owed.filter fun j => j != i, (s.peer j).state.trusted = true :=
    ⟨h.1.filter _, fun j hj => h.2 j (List.mem_filter.1 hj).1⟩
  unfold State.giveReadmit
  split
  · exact h.owe hi
  · exact given
  · exact given

theorem Upholds.passProbation {s : State} {i : Station} (on : PeersFit s → (s.peer i).state = .probation) :
    Upholds s (s.passProbation i) := by
  let e' : PeerEntry := { s.peer i with state := .live, score := 48, muteReason := none, selfCount := 0 }
  have peer : ((s.updatePeer i e').endProbation i).peer i = e' := by
    show (s.updatePeer i e').peer i = e'
    rw [(Works.updatePeer s i e').peer, s.entered_peer, if_pos rfl]
  have ended : Upholds s ((s.updatePeer i e').endProbation i) :=
    .endProbation on nofun fun _ => show 48 ≤ 255 by decide
  exact ended.trans ((OwedOnly.giveReadmit _ i).upholds fun h => h.giveReadmit (by rw [peer]; rfl))

/-- The READMITs still owed, one after another (R152). -/
theorem retryOwed_fold (l : List Station) : ∀ s : State, (∀ i ∈ l, (s.peer i).state.trusted = true) →
    OwedLaw s → OwedLaw (l.foldl State.giveReadmit s) := by
  induction l with
  | nil => exact fun _ _ h => h
  | cons i l ih =>
    intro s hl h
    refine ih _ (fun j hj => ?_) (h.giveReadmit (hl i (List.mem_cons_self ..)))
    rw [State.peer, (OwedOnly.giveReadmit s i).peers]
    exact hl j (List.mem_cons_of_mem _ hj)

theorem OwedOnly.retryOwed (s : State) : OwedOnly s s.retryOwed := by
  have fold : ∀ (l : List Station) (u : State), OwedOnly u (l.foldl State.giveReadmit u) := by
    intro l
    induction l with
    | nil => exact .refl
    | cons i l ih => exact fun u => (OwedOnly.giveReadmit u i).trans (ih _)
  exact fold _ s

theorem Upholds.retryOwed (s : State) : Upholds s s.retryOwed :=
  (OwedOnly.retryOwed s).upholds fun h => retryOwed_fold _ s h.2 h

theorem Upholds.directiveLost (s : State) (d : Directive) : Upholds s (s.directiveLost d) := by
  unfold State.directiveLost
  split
  · split
    next h => exact .setPeer (.of_state rfl (by rw [h]; nofun) id) rfl
    next => exact .refl s
  · split
    next h => exact OwedOnly.upholds ⟨rfl, rfl, rfl, rfl, rfl, rfl⟩ fun hs => hs.owe h
    next => exact .refl s

end Sys2Proof.Machine
end

section
/-! What the quantity selector keeps. -/

namespace Sys2Proof.Machine

/-! ### The band and the served values -/

/-- The band that is worked out afresh fits (R70). -/
theorem BandFits.workBand (s : State) : BandFits s.workBand.selector := by
  intro h
  simp only [State.workBand, State.setSelector_selector] at h ⊢
  cases hs : s.selector.served.speed with
  | none => rfl
  | some x => exact if_pos (h.resolve_right (by rw [hs]; nofun))

theorem BandFits.recordServed {s : State} (h : BandFits s.selector) (v : ServedValues) :
    BandFits (s.recordServed v).selector := by
  unfold State.recordServed
  simp only
  split
  · exact .workBand _
  next still =>
    have still : v.speed = s.selector.served.speed := by simpa using still
    intro hx
    exact h (hx.imp id fun hn => still ▸ hn)

theorem BandFits.refreshedSelector {s : State} (h : BandFits s.selector) : BandFits s.refreshedSelector := by
  unfold State.refreshedSelector
  split
  · exact h
  · have recorded := h.recordServed s.resolved
    exact recorded

theorem State.refreshServed_of_not_resolving {s : State} (h : ¬ resolving s.station) : s.refreshServed = s := by
  unfold refreshServed resolveQuantities
  split
  · rfl
  · cases hs : s.station <;> simp_all [resolving]

theorem Upholds.refreshServed (s : State) : Upholds s s.refreshServed := by
  by_cases h : resolving s.station
  · exact (Upholds.setSelector (by rw [s.refreshedSelector_own]) .refreshedSelector
      conditionsFit_refreshedSelector).trans (Works.refreshServed h).upholds
  · rw [State.refreshServed_of_not_resolving h]; exact .refl s

/-- The served values and the two conditions stay, and the band is worked out or fits as before. -/
theorem Upholds.reband {s : State} {x : Selector} (own : x.own = s.selector.own) (served : x.served = s.selector.served)
    (unknown : x.speedUnknown = s.selector.speedUnknown) (charge : x.chargeHolds = s.selector.chargeHolds)
    (band : BandFits s.selector → BandFits x) : Upholds s (s.setSelector x) :=
  .setSelector (by rw [own]) band fun _ h => by rw [ConditionsFit, served, unknown, charge]; exact h

theorem Upholds.setDisputed (s : State) (a b : Bool) : Upholds s (s.setDisputed a b) := by
  let u := s.setSelector { s.selector with speedDisputed := a, voltageDisputed := b }
  unfold State.setDisputed
  simp only
  refine Upholds.trans ?_ (Works.conditionNow _ _ _ _).upholds
  split
  next same => exact .reband rfl rfl rfl rfl fun h => by rw [same]; exact h
  next =>
    have banded : Upholds s (s.setSelector u.workBand.selector) := .reband rfl rfl rfl rfl fun _ => .workBand u
    exact banded

theorem Upholds.setBrake (s : State) (n : Nat) (holds : Bool) : Upholds s (s.setBrake n holds) :=
  .reband rfl rfl rfl rfl id

/-- The own values changed without a change of quantity. -/
theorem Upholds.setOwn {s : State} {l : List OwnValue}
    (h : l.map OwnValue.quantity = s.selector.own.map OwnValue.quantity) :
    Upholds s (s.setSelector { s.selector with own := l }) := .setSelector h id fun _ => id

theorem map_quantity {f : OwnValue → OwnValue} (h : ∀ x, (f x).quantity = x.quantity) (l : List OwnValue) :
    (l.map f).map OwnValue.quantity = l.map OwnValue.quantity := by
  rw [List.map_map]; exact congrArg (List.map · l) (funext h)

theorem Upholds.mapOwn (s : State) {f : OwnValue → OwnValue} (h : ∀ x, (f x).quantity = x.quantity) :
    Upholds s (s.mapOwn f) := .setOwn (map_quantity h _)

theorem expireFresh_quantity (q : Quantity) (x : OwnValue) : (expireFresh q x).quantity = x.quantity := by
  unfold expireFresh; split <;> rfl

theorem storeOwn_quantity (q : Quantity) (v : Nat) (l : List OwnValue) :
    (storeOwn q v l).map OwnValue.quantity = l.map OwnValue.quantity :=
  map_quantity (fun x => by split <;> rfl) l

/-! ### The per-period evaluations -/

theorem Upholds.chargeOutlier (s : State) (x : Option Station) : Upholds s (s.chargeOutlier x) := by
  unfold State.chargeOutlier
  split
  · split
    · exact .refl s
    · exact .crossCharge s _
  · exact .refl s

theorem Upholds.evaluateChecks (later : List Later) (s : State) : Upholds s (s.evaluateChecks later) := by
  unfold State.evaluateChecks
  simp only
  refine ((Upholds.trans (Upholds.trans ?_ (.setDisputed _ _ _)) (.chargeOutlier _ _)).trans (.chargeOutlier _ _)).trans
    (.refreshServed _)
  exact .reband rfl rfl rfl rfl id

theorem Upholds.beginBrake (s : State) : Upholds s s.beginBrake :=
  (Upholds.setBrake s _ true).trans (Works.raise _ _).upholds

theorem Upholds.countBrake (later : List Later) (s : State) : Upholds s (s.countBrake later) := by
  unfold State.countBrake
  simp only
  split
  · split
    · exact (Upholds.setBrake s 0 false).trans (Works.conditionGone _ _).upholds
    · exact .refl s
  · split
    · split
      · exact (Upholds.setBrake s _ false).trans (.beginBrake _)
      · exact .setBrake s _ false
    · exact .setBrake s 0 false

theorem Upholds.selectorPeriod (later : List Later) (s : State) : Upholds s (s.selectorPeriod later) := by
  have counted : Upholds s (s.mapOwn countFresh).refreshServed :=
    (Upholds.mapOwn s countFresh_quantity).trans (.refreshServed _)
  unfold State.selectorPeriod
  simp only
  split
  · exact ((counted.trans (.evaluateChecks later _)).trans (.countBrake later _)).trans (Works.presentSelector _).upholds
  · exact counted

end Sys2Proof.Machine
end

section
/-! What start control and the own expiry keep of these laws. -/

namespace Sys2Proof.Machine

/-! ### Start control -/

/-- Start control changed but for the straps; the station does not begin to ride. -/
theorem Upholds.setStart {s : State} {b : StartControl} (straps : b.straps = s.start.straps)
    (riding : b.station.riding = true → s.station.riding = true) : Upholds s (s.setStart b) :=
  .of_same rfl straps rfl rfl rfl rfl riding

theorem Upholds.setLine (s : State) (l : LineInterface) : Upholds s (s.setLine l) := .of_same rfl rfl rfl rfl rfl rfl id

theorem Upholds.setEngine (s : State) (e : Engine) : Upholds s (s.setEngine e) := .of_same rfl rfl rfl rfl rfl rfl id

theorem Upholds.populationCheck (s : State) : Upholds s s.populationCheck := by
  have marked : Upholds s s.markPopulation := .setStart rfl id
  exact marked.trans (Works.populationCheck s).upholds

theorem Upholds.recheckPopulation (s : State) : Upholds s s.recheckPopulation := by
  unfold State.recheckPopulation; split
  · exact .populationCheck s
  · exact .refl s

theorem Upholds.setPlace (s : State) (i : Station) (p : Place) : Upholds s (s.setPlace i p) := .setStart rfl id

theorem Upholds.ownClash (s : State) : Upholds s s.ownClash :=
  (Upholds.setPlace s _ _).trans (.recheckPopulation _)

theorem Upholds.hearRole (s : State) (i : Station) (r : Role) : Upholds s (s.hearRole i r) := by
  unfold State.hearRole; split
  · exact (Upholds.setPlace s _ _).trans (.recheckPopulation _)
  · split
    · exact .refl s
    · exact (Upholds.setPlace s _ _).trans (.recheckPopulation _)

/-- Every entry changed in fields that no law reads; the own entry stays as a reset leaves it. -/
theorem Upholds.mapPeers {s : State} {f : PeerEntry → PeerEntry} (initial : f PeerEntry.initial = PeerEntry.initial)
    (state : ∀ e, (f e).state = e.state) (score : ∀ e, (f e).score = e.score) :
    Upholds s (s.setPeers (s.peers.map f)) := by
  have peer : ∀ i, (s.setPeers (s.peers.map f)).peer i = f (s.peer i) := fun i => Six.get_map f s.peers i
  refine ⟨fun ⟨⟨own, notQueued, notOnProbation⟩, nodup, down, head, record⟩ => ?_, fun h i => ?_, fun h => ?_, id, id⟩
  · refine ⟨⟨?_, notQueued, notOnProbation⟩, nodup, fun i hi => ?_, fun p hp => ?_, fun i hi => ?_⟩
    · rw [peer]; exact (congrArg f own).trans initial
    · rw [peer, state]; exact down i hi
    · rw [peer, state]; exact head p hp
    · rw [peer, state] at hi; exact record i hi
  · rw [peer, score]; exact h i
  · exact ⟨h.1, fun i hi => by rw [peer, state]; exact h.2 i hi⟩

theorem BandFits.joined {x : Selector} (h : BandFits x) (c : ConfigSet) : BandFits (joined c x) := by
  intro hx
  have none : x.served.speed = none := hx.resolve_left nofun
  show (if x.speedDisputed then bandFrom c x.band x.served.speed else x.band) = _
  rw [none]
  split
  · rfl
  · exact h (.inr none)

theorem Upholds.enterJoin (s : State) : Upholds s s.enterJoin := by
  rw [State.enterJoin_eq]
  have started : Upholds s (s.setStart { s.start with
      station := .join, discovery := 0, beaconTimer := some (periodMs s.config.period) }) := .setStart rfl nofun
  refine (started.trans (.mapPeers (f := fun e => { e with heard := false }) rfl (fun _ => rfl) fun _ => rfl)).trans ?_
  exact .reband rfl rfl rfl rfl fun h => h.joined _

theorem BandFits.enteredSelector {x : Selector} (h : BandFits x) : BandFits (enteredSelector x) := h

theorem Upholds.enterRun (s : State) : Upholds s s.enterRun := by
  have noted : Upholds s (s.enteredRun.setSelector (enteredSelector s.selector)) :=
    ⟨.congr rfl rfl rfl rfl, .congr rfl, .congr rfl rfl, .congr rfl rfl .enteredSelector,
      fun _ _ => conditionsFit_enteredSelector _⟩
  have supervised : Upholds s.checkedRun s.enterRun := by
    rw [s.enterRun_eq]
    unfold State.startAtEntry
    repeat' split
    · exact .refl _
    · exact .of_same rfl rfl rfl rfl rfl rfl id
    · exact .refl _
  exact (noted.trans (Works.checkedRun s).upholds).trans supervised

/-- The state in which the directive queue is discarded at the entry to PARKED (R61, R165). -/
def State.parkedLine (s : State) : State :=
  ((s.setStart { s.start with station := .parked, beaconTimer := none }).endConditions).setLine
    { s.line with alerts := [] }

theorem Upholds.parkedLine (s : State) : Upholds s s.parkedLine :=
  ⟨.congr rfl rfl rfl rfl, .congr rfl, .congr rfl rfl, .congr rfl rfl id, fun _ => nofun⟩

/-! ### The own expiry -/

/-- The places of the isolation unit and its timers stand apart from these laws. -/
theorem Upholds.setIsolation {s : State} {u : Isolation} (queue : u.queue = s.isolation.queue)
    (probation : u.probation = s.isolation.probation) (owed : u.owed = s.isolation.owed) :
    Upholds s (s.setIsolation u) := .of_same rfl rfl queue probation owed rfl id

theorem Upholds.agePlaces (later : List Later) (s : State) : Upholds s (s.agePlaces later) := by
  have aged : Upholds s (s.setIsolation { s.isolation with
      cease := ageCease later s.isolation.cease, readmit := ageReadmit later s.isolation.readmit }) :=
    .setIsolation rfl rfl rfl
  exact aged.trans (Works.compareQuorum _).upholds

theorem Upholds.countHolds (s : State) : Upholds s s.countHolds := by
  unfold State.countHolds; split
  · refine .mapPeers rfl (fun e => ?_) fun e => ?_ <;> unfold PeerEntry.countHold <;> split <;> rfl
  · exact .refl s

theorem Upholds.rejoinTimedOut (s : State) : Upholds s s.rejoinTimedOut := .of_same rfl rfl rfl rfl rfl rfl id

theorem Upholds.countRejoin (later : List Later) (s : State) : Upholds s (s.countRejoin later) := by
  have counted : ∀ n, Upholds s (s.setIsolation { s.isolation with rejoinTimer := n }) := fun n =>
    .setIsolation rfl rfl rfl
  unfold State.countRejoin; split
  · simp only; split
    · exact (counted _).trans (.rejoinTimedOut _)
    · exact counted _
  · exact .refl s

theorem Upholds.agePeer (s : State) (i : Station) : Upholds s (s.agePeer i) := by
  unfold State.agePeer
  simp only
  split
  next h => exact .updateScored (.aged (by rw [h]; nofun))
  next h => exact .updateScored (.aged (by rw [h]; nofun))
  next h =>
    have aged : Upholds s (s.updatePeer i (s.peer i).aged) := .updatePeer (.aged (by rw [h]; nofun))
    split
    · refine aged.trans (.failProbation fun _ => ?_)
      rw [(Works.updatePeer s i _).peer, s.entered_peer, if_pos rfl, PeerEntry.aged_state, h]
    · exact aged
  next => exact .refl s

theorem Upholds.countSelf (s : State) (i : Station) : Upholds s (s.countSelf i) := by
  unfold State.countSelf; simp only; split
  next h => exact .setPeer (.of_state rfl (ne_absent_of_trusted h) id) rfl
  next => exact .refl s

theorem Upholds.selfPeriod (later : List Later) (s : State) (i : Station) : Upholds s (s.selfPeriod later i) := by
  unfold State.selfPeriod; simp only; split
  · exact .countSelf s i
  · exact (Upholds.countSelf s i).trans (.reportSelfContained _ i)

theorem State.lossDue_trusted {s : State} {i : Station} (h : s.lossDue i = true) : (s.peer i).state.trusted = true := by
  unfold lossDue at h; simp only [Bool.and_eq_true] at h; exact h.1.2

theorem Upholds.losePeer {s : State} {i : Station} (h : s.lossDue i = true) : Upholds s (s.losePeer i) :=
  .updatePeer (.of_trusted (State.lossDue_trusted h) nofun id)

theorem Upholds.peerPeriod (later : List Later) (s : State) (i : Station) : Upholds s (s.peerPeriod later i) := by
  refine (Upholds.agePeer s i).trans ?_
  unfold State.peerPeriod; simp only; split
  next due => split
              · exact .refl _
              · exact .losePeer due
  next => exact .selfPeriod later _ i

theorem Upholds.peersPeriod (later : List Later) (s : State) : Upholds s (s.peersPeriod later) := by
  unfold State.peersPeriod; split
  · exact .foldl (.peerPeriod later) _ s
  · exact .refl s

theorem Upholds.expiryCounted (later : List Later) (s : State) : Upholds s (s.expiryCounted later) := by
  obtain ⟨e, g, counted, -, -⟩ := s.expiryCounted_eq later
  rw [counted]; exact .of_same rfl rfl rfl rfl rfl rfl id

theorem Upholds.countClashes (later : List Later) (s : State) : Upholds s (s.countClashes later) := by
  have counted : Upholds s (s.setStart { s.start with population := s.start.population.map Place.countClash }) :=
    .setStart rfl id
  unfold State.countClashes; simp only; split
  · exact counted.trans (.recheckPopulation _)
  · exact counted

theorem Upholds.periodicBeacon (s : State) : Upholds s s.periodicBeacon := .setLine s _

theorem Upholds.countDiscovery (later : List Later) (s : State) : Upholds s (s.countDiscovery later) := by
  have counted : ∀ n, Upholds s (s.setStart { s.start with discovery := n }) := fun _ => .setStart rfl id
  unfold State.countDiscovery; split
  · simp only; split
    · exact (counted _).trans (.enterRun _)
    · exact counted _
  · exact .refl s

/-- The own expiry up to its end (log 7). -/
theorem Upholds.expiryEnded (later : List Later) (s : State) : Upholds s (s.expiryEnded later) := by
  have clashes : Upholds s ((s.expiryCounted later).countClashes later) :=
    (Upholds.expiryCounted later s).trans (.countClashes later _)
  have roles : Upholds s (s.expiryRoles later) := clashes.trans (Works.presentRoles _).upholds
  have isolation := (((roles.trans (.agePlaces later _)).trans (.countHolds _)).trans (.countRejoin later _)).trans
    (.retryOwed _)
  have peers := ((isolation.trans (.peersPeriod later _)).trans (Works.presentPeers _).upholds).trans (.refreshServed _)
  exact (((peers.trans (.selectorPeriod later _)).trans (Works.presentLine _).upholds).trans (.periodicBeacon _)).trans
    (.countDiscovery later _)

end Sys2Proof.Machine
end

section
/-! What the receiving side keeps of these laws. -/

namespace Sys2Proof.Machine

/-! ### Frames heard -/

theorem Upholds.goodFrame (s : State) : Upholds s s.goodFrame := by
  unfold State.goodFrame; simp only; split
  · exact (Upholds.setLine s _).trans (Works.conditionGone _ _).upholds
  · exact .setLine s _

theorem State.goodFrame_own (s : State) : s.goodFrame.own = s.own := by rw [State.own, s.goodFrame_start]; rfl

theorem Upholds.badFrame (s : State) : Upholds s s.badFrame := by
  unfold State.badFrame; simp only; split
  · exact (Upholds.setLine s _).trans (Works.raise _ _).upholds
  · exact .setLine s _

theorem State.updatePeer_self (s : State) (i : Station) (e' : PeerEntry) : (s.updatePeer i e').peer i = e' := by
  rw [s.updatePeer_peer, if_pos rfl]

theorem Upholds.chargeBadFrame (s : State) (i : Station) : Upholds s (s.chargeBadFrame i) := by
  unfold State.chargeBadFrame
  simp only
  split
  next h => exact .updateScored (.charge (by rw [h]; nofun) _)
  next h => exact .updateScored (.charge (by rw [h]; nofun) _)
  next h =>
    have charged : Upholds s (s.updatePeer i ((s.peer i).charge 24)) := .updatePeer (.charge (by rw [h]; nofun) _)
    exact charged.trans (.failProbation fun _ => by rw [s.updatePeer_self]; exact h)
  all_goals exact .refl s

theorem Upholds.damaged (s : State) (i : Station) : Upholds s (s.damaged i) := by
  unfold State.damaged; split
  · exact .badFrame s
  · exact .chargeBadFrame s i

/-! ### Beacons -/

theorem stateByParking_plain (b : Beacon) : (stateByParking b).down = false ∧ stateByParking b ≠ .probation := by
  unfold stateByParking; split
  · exact ⟨rfl, nofun⟩
  · exact ⟨rfl, nofun⟩

/-- An entry that is not down and comes into LIVE or PARKED (R36). -/
theorem EntryFits.byParking {s : State} {i : Station} {e' : PeerEntry} {b : Beacon} (state : e'.state = stateByParking b)
    (old : (s.peer i).state.down = false) (foreign : (s.peer i).state ≠ .absent ∨ i ≠ s.own) (score : e'.score ≤ 255) :
    EntryFits s i e' := by
  refine ⟨foreign, fun h => absurd h (by rw [old]; nofun), ⟨fun h => ?_, fun h => ?_⟩, fun _ => score⟩
  · exact absurd (state.symm.trans h) (stateByParking_plain b).2
  · rw [h] at old; exact nomatch old

theorem Upholds.peerRestarts {s : State} {b : Beacon} (h : (s.peer b.sender).state.trusted = true) :
    Upholds s (s.peerRestarts b) := by
  have lost : Upholds s (s.updatePeer b.sender { (s.peer b.sender).store b with
      state := .lost, selfCount := 0, downCause := .restarted }) := .updatePeer (.of_trusted h nofun id)
  exact lost.trans (.enqueueRejoin (by rw [s.updatePeer_self]; rfl))

theorem Upholds.beaconAtTrusted {s : State} {b : Beacon} (h : (s.peer b.sender).state.trusted = true) :
    Upholds s (s.beaconAtTrusted b) := by
  have score : ((s.peer b.sender).storeScored b).score ≤ 255 := scoreAfter_le _ _
  unfold State.beaconAtTrusted
  simp only
  split
  · exact .peerRestarts h
  · split
    · exact .updatePeer (.of_trusted h nofun fun _ => score)
    · exact .hearScored (.of_state rfl (ne_absent_of_trusted h) fun _ => score)

theorem Upholds.beaconAtLost {s : State} {b : Beacon} (h : (s.peer b.sender).state = .lost) :
    Upholds s (s.beaconAtLost b) := by
  have stored : Upholds s (s.updatePeer b.sender ((s.peer b.sender).store b)) :=
    .updatePeer (.of_state rfl (by rw [h]; nofun) id)
  refine stored.trans (.enqueueRejoin ?_)
  rw [s.updatePeer_self]
  show (s.peer b.sender).state.down = true
  rw [h]; rfl

/-- A CEASE and a count of frames leave the state of every entry (R41, R139). -/
theorem State.countMuted_state (s : State) (i j : Station) : ((s.countMuted i).peer j).state = (s.peer j).state := by
  have given : ∀ u : State, ((u.giveCease i).peer j).state = (u.peer j).state := fun u => by
    have cleared : ∀ v : State, v.peers = u.peers →
        ((v.setPeer i { u.peer i with ceasePending := false }).peer j).state = (u.peer j).state := fun v hv => by
      rw [State.setPeer_peer]
      split
      next h => rw [h]
      next => rw [State.peer, hv]; rfl
    unfold giveCease
    simp only
    split
    · split
      · rfl
      · exact cleared _ rfl
      · exact cleared _ rfl
    · rfl
  unfold countMuted
  simp only
  split
  · rw [given, State.setPeer_peer]
    split
    next h => rw [h]
    next => rfl
  · rfl

theorem Upholds.beaconAtMuted {s : State} {b : Beacon} (h : (s.peer b.sender).state = .muted) :
    Upholds s (s.beaconAtMuted b) := by
  let u := s.setPeer b.sender { s.peer b.sender with lastSeq := b.sequence, flags := b.flags }
  have stored : Upholds s u := .setPeer (.of_state rfl (by rw [h]; nofun) id) rfl
  have counted : Upholds s (u.countMuted b.sender) := stored.trans (.countMuted _ _)
  have muted : ((u.countMuted b.sender).peer b.sender).state = .muted := by
    rw [u.countMuted_state, State.setPeer_peer, if_pos rfl]; exact h
  unfold State.beaconAtMuted
  simp only
  split
  · exact counted.trans (.enqueueRejoin (by
      show ((u.countMuted b.sender).peer b.sender).state.down = true
      rw [muted]; rfl))
  · exact counted

theorem State.probationOf_eq_some {s : State} {i : Station} {p : Probation} (h : s.probationOf i = some p) :
    s.isolation.probation = some p ∧ p.station = i := by
  unfold probationOf at h
  split at h
  next q hq =>
    split at h
    next hi => exact ⟨hq.trans h, Option.some.inj h ▸ hi⟩
    next => exact nomatch h
  next => exact nomatch h

theorem Upholds.countClean {s : State} {i : Station} {p : Probation} (record : s.isolation.probation = some p)
    (on : (s.peer i).state = .probation) : Upholds s (s.countClean i p) := by
  let u := s.setIsolation { s.isolation with
    probation := some { p with clean := addSat Config.cleanBeacons p.clean 1 } }
  have counted : Upholds s u := by
    refine ⟨fun ⟨⟨own, notQueued, notOnProbation⟩, nodup, down, head, back⟩ => ?_, .congr rfl, .congr rfl rfl,
      .congr rfl rfl id, id⟩
    refine ⟨⟨own, notQueued, fun q hq => ?_⟩, nodup, down, fun q hq => ?_, fun j hj => ⟨_, rfl, ?_⟩⟩
    · cases Option.some.inj hq
      exact notOnProbation p record
    · cases Option.some.inj hq
      exact head p record
    · obtain ⟨q, hq, rfl⟩ := back j hj
      rw [record] at hq
      cases Option.some.inj hq; rfl
  unfold State.countClean
  simp only
  split
  · exact counted.trans (.passProbation fun _ => on)
  · exact counted

theorem Upholds.beaconOnProbation {s : State} {b : Beacon} {p : Probation} (record : s.isolation.probation = some p)
    (on : (s.peer b.sender).state = .probation) : Upholds s (s.beaconOnProbation p b) := by
  let t := s.updatePeer b.sender ((s.peer b.sender).storeScored b)
  have stored : Upholds s t := .updatePeer (.of_state rfl (by rw [on]; nofun) fun _ => scoreAfter_le _ _)
  have still : (t.peer b.sender).state = .probation := by rw [s.updatePeer_self]; exact on
  have kept : t.isolation.probation = some p := by
    obtain ⟨-, probation, -⟩ := (Works.updatePeer s b.sender ((s.peer b.sender).storeScored b)).isolation
    rw [probation, s.entered_isolation]; exact record
  unfold State.beaconOnProbation
  simp only
  split
  · exact stored.trans (.abandonProbation fun _ => still)
  · split
    · exact stored.trans (.failProbation fun _ => still)
    · split
      · exact stored.trans (.countClean kept still)
      · exact stored

theorem Upholds.beaconAtProbation {s : State} {b : Beacon} (on : (s.peer b.sender).state = .probation) :
    Upholds s (s.beaconAtProbation b) := by
  unfold State.beaconAtProbation
  split
  next h => exact .beaconOnProbation (State.probationOf_eq_some h).1 on
  next => exact .updatePeer (.of_state rfl (by rw [on]; nofun) fun _ => scoreAfter_le _ _)

theorem Upholds.takeBeacon {s : State} {b : Beacon} (foreign : b.sender ≠ s.own) : Upholds s (s.takeBeacon b) := by
  unfold State.takeBeacon
  split
  next h => exact .hearPeer (.byParking (b := b) rfl (by rw [h]; rfl) (.inr foreign) (Nat.zero_le _))
  next h => exact .hearScored (.byParking (b := b) rfl (by rw [h]; rfl) (.inr foreign) (scoreAfter_le _ _))
  next h => exact .beaconAtTrusted (by rw [h]; rfl)
  next h => exact .beaconAtTrusted (by rw [h]; rfl)
  next h => exact .beaconAtLost h
  next h => exact .beaconAtMuted h
  next h => exact .beaconAtProbation h

/-! ### Alerts and directives -/

theorem Upholds.takeAlert (s : State) (a : Alert) : Upholds s (s.takeAlert a) := by
  unfold State.takeAlert
  simp only
  split
  next h => exact .hearPeer (.of_state rfl (by rw [h]; nofun) id)
  next h => exact .hearPeer (.of_state rfl (by rw [h]; nofun) id)
  next h => exact .setPeer (.of_state rfl (by rw [h]; nofun) id) rfl
  next h =>
    have told : Upholds s (s.setPeer a.sender { s.peer a.sender with ownLevel := a.ownLevel }) :=
      .setPeer (.of_state rfl (by rw [h]; nofun) id) rfl
    split
    · exact told.trans (.failProbation fun _ => by rw [State.setPeer_peer, if_pos rfl]; exact h)
    · exact told
  next => exact .countMuted s _
  next => exact .refl s
  next => exact .refl s

theorem Upholds.abandonRejoin (s : State) : Upholds s s.abandonRejoin := by
  unfold State.abandonRejoin; split
  · have isolated : Upholds s (s.setIsolation { s.isolation with
        own := .isolated, rejoinTimer := none, readmit := [] }) := .setIsolation rfl rfl rfl
    exact isolated.trans (Works.raise _ _).upholds
  · exact .refl s

theorem Upholds.ceased (s : State) (c : Cease) : Upholds s (s.ceased c) := by
  have entered : Upholds s (s.setIsolation { s.isolation with
      cease := enterCease c.sender c.reason s.isolation.cease }) := .setIsolation rfl rfl rfl
  exact (entered.trans (.abandonRejoin _)).trans (Works.compareQuorum _).upholds

theorem Upholds.takeCease (s : State) (c : Cease) : Upholds s (s.takeCease c) := by
  unfold State.takeCease
  split
  · split
    · exact .ceased s c
    · split
      next p h =>
        obtain ⟨record, station⟩ := State.probationOf_eq_some h
        refine .failProbation fun fit => ?_
        obtain ⟨-, -, -, head, -⟩ := fit
        exact station ▸ (head p record).2
      next => exact .refl s
  · exact .refl s

theorem Upholds.takeReadmit (s : State) (r : Readmit) : Upholds s (s.takeReadmit r) := by
  unfold State.takeReadmit
  split
  · have entered : Upholds s (s.setIsolation { s.isolation with
        readmit := enterReadmit r.sender s.isolation.readmit }) := .setIsolation rfl rfl rfl
    exact entered.trans (Works.compareQuorum _).upholds
  · exact .refl s

end Sys2Proof.Machine
end

section
/-! What a step keeps: the laws of a handling, and at its end served values that are those of the sources and no peer that
waits while no probation runs. -/

namespace Sys2Proof.Machine

/-- A step keeps every law. -/
structure Preserves (s t : State) : Prop extends Upholds s t where
  settled : PeersFit s → Settled s → Settled t

theorem Preserves.refl (s : State) : Preserves s s := ⟨.refl s, fun _ => id⟩

theorem Preserves.trans {s t u : State} (h : Preserves s t) (h' : Preserves t u) : Preserves s u :=
  ⟨h.toUpholds.trans h'.toUpholds, fun fit still => h'.settled (h.peers fit) (h.settled fit still)⟩

theorem Preserves.foldl {α : Type} {f : State → α → State} (h : ∀ s a, Preserves s (f s a)) (l : List α) :
    ∀ s, Preserves s (l.foldl f s) := by
  induction l with
  | nil => exact .refl
  | cons a l ih => exact fun s => (h s a).trans (ih _)

/-! ### Steps that leave the sources and the rejoin queue alone -/

theorem Settled.congr {s t : State} (resolved : t.resolved = s.resolved) (selector : t.selector.served = s.selector.served)
    (queue : t.isolation.queue = s.isolation.queue) (probation : t.isolation.probation = s.isolation.probation)
    (h : Settled s) : Settled t :=
  ⟨resolved.trans (h.1.trans selector.symm), by rw [queue, probation]; exact h.2⟩

/-- A step that leaves alone whatever the laws are read from. -/
theorem Preserves.of_same {s t : State} (peers : t.peers = s.peers) (straps : t.start.straps = s.start.straps)
    (fallback : t.config.fallbackDischarge = s.config.fallbackDischarge)
    (queue : t.isolation.queue = s.isolation.queue) (probation : t.isolation.probation = s.isolation.probation)
    (owed : t.isolation.owed = s.isolation.owed) (selector : t.selector = s.selector)
    (riding : t.station.riding = true → s.station.riding = true) : Preserves s t := by
  have sources : t.resolved = s.resolved :=
    State.resolved_congr (by rw [State.own, straps]; rfl) (by rw [selector]) fallback
      (fun i => by rw [State.peer, peers]; rfl) fun i _ => by rw [State.peer, peers]; rfl
  exact ⟨.of_same peers straps queue probation owed selector riding,
    fun _ => .congr sources (by rw [selector]) queue probation⟩

theorem Works.preserves {s t : State} (h : Works s t) : Preserves s t := ⟨h.upholds, fun _ => h.settled⟩

theorem Preserves.setStart {s : State} {b : StartControl} (straps : b.straps = s.start.straps)
    (riding : b.station.riding = true → s.station.riding = true) : Preserves s (s.setStart b) :=
  .of_same rfl straps rfl rfl rfl rfl rfl riding

theorem Preserves.setLine (s : State) (l : LineInterface) : Preserves s (s.setLine l) :=
  .of_same rfl rfl rfl rfl rfl rfl rfl id

theorem Preserves.setLink (s : State) (l : Link) : Preserves s (s.setLink l) :=
  .of_same rfl rfl rfl rfl rfl rfl rfl id

theorem Preserves.setSupervision (s : State) (v : Supervision) : Preserves s (s.setSupervision v) :=
  .of_same rfl rfl rfl rfl rfl rfl rfl id

theorem Preserves.setEnvelope (s : State) (e : Envelope) : Preserves s (s.setEnvelope e) :=
  .of_same rfl rfl rfl rfl rfl rfl rfl id

theorem Preserves.setEngine (s : State) (e : Engine) : Preserves s (s.setEngine e) :=
  .of_same rfl rfl rfl rfl rfl rfl rfl id

theorem Preserves.setIsolation {s : State} {u : Isolation} (queue : u.queue = s.isolation.queue)
    (probation : u.probation = s.isolation.probation) (owed : u.owed = s.isolation.owed) :
    Preserves s (s.setIsolation u) := .of_same rfl rfl rfl queue probation owed rfl id

/-! ### The end of a handling -/

theorem Settled.handOver {s0 t : State} (h : Settled t) : Settled (s0.handOver t) := by
  refine h.congr ?_ (by rw [s0.handOver_selector]) (s0.handOver_queue t) (s0.handOver_probation t)
  exact State.resolved_congr (by rw [State.own, s0.handOver_start]; rfl) (by rw [s0.handOver_selector])
    (by rw [s0.handOver_config]) (fun i => by rw [s0.handOver_peer]) fun i _ => by rw [s0.handOver_peer]

theorem Preserves.handOver (s0 t : State) : Preserves t (s0.handOver t) := ⟨.handOver s0 t, fun _ => .handOver⟩

theorem Preserves.populationCheck (s : State) : Preserves s s.populationCheck := by
  have marked : Preserves s s.markPopulation := .setStart rfl id
  exact marked.trans (Works.populationCheck s).preserves

theorem Preserves.checkAfterPark (s0 t : State) : Preserves t (s0.checkAfterPark t) := by
  unfold State.checkAfterPark; split
  · exact (Preserves.populationCheck t).trans (Works.compareQuorum _).preserves
  · exact .refl t

/-- The start of a probation is that of a peer that served nothing before and serves nothing after (R59, R147). -/
theorem State.onTrial_resolved {u : State} {i : Station} (down : (u.peer i).state.down = true) :
    ((u.onTrial i).updatePeer i (u.peer i).onProbation).resolved = u.resolved := by
  have untrusted : (u.peer i).state.trusted = false := by
    cases h : (u.peer i).state <;> simp_all [EntryState.down, EntryState.trusted]
  have works := Works.updatePeer (u.onTrial i) i (u.peer i).onProbation
  rw [works.resolved]
  refine resolved_congr (State.entered_own ..) (by rw [entered_selector]; rfl) (by rw [(Course.entered ..).config]; rfl)
    (fun j => ?_) fun j trusted => ?_
  · rw [entered_peer]
    split
    next h => rw [h, untrusted]; rfl
    next => rfl
  · rw [entered_peer] at trusted ⊢
    split at trusted
    next h => exact nomatch trusted
    next h => rw [if_neg h]; rfl

/-- The end of a handling settles what is left to do. -/
theorem settled_of_onLine {t : State} (fit : PeersFit t) (onLine : t.station.onLine = true) :
    Settled t.refreshServed.startProbation := by
  let u := t.refreshServed
  have served : u.resolved = u.selector.served := State.refreshServed_served (resolving_of_onLine onLine)
  have online : u.station.onLine = true := (Course.refreshServed t).onLine.trans onLine
  obtain ⟨-, -, down, -⟩ := (Upholds.refreshServed t).peers fit
  show Settled u.startProbation
  by_cases waits : u.isolation.queue = [] ∨ u.isolation.probation.isSome = true
  · rw [State.startProbation_of_running waits]; exact ⟨served, waits⟩
  · obtain ⟨queue, none⟩ := not_or.1 waits
    obtain ⟨i, rest, queue⟩ := List.exists_cons_of_ne_nil queue
    have none : u.isolation.probation = Option.none := by simpa using none
    have started : u.startProbation = (u.onTrial i).updatePeer i (u.peer i).onProbation := by
      rw [State.startProbation, if_pos online, none, queue]; rfl
    have works := Works.updatePeer (u.onTrial i) i (u.peer i).onProbation
    obtain ⟨-, probation, -⟩ := works.isolation
    rw [started]
    refine ⟨?_, .inr ?_⟩
    · rw [State.onTrial_resolved (down i (by show i ∈ u.isolation.queue; rw [queue]; exact List.mem_cons_self ..)),
        works.selector, State.entered_selector]
      exact served
    · rw [probation, State.entered_isolation]; rfl

theorem Upholds.finish {s t : State} (h : Upholds s t) (s0 : State) : Upholds s (s0.finish t) :=
  (((h.trans (.refreshServed t)).trans (.startProbation _)).trans (Preserves.checkAfterPark s0 _).toUpholds).trans
    (.handOver s0 _)

/-- A handling that leaves the station on the line. -/
theorem Preserves.finish_onLine {s t : State} (h : Upholds s t) (onLine : t.station.onLine = true) (s0 : State) :
    Preserves s (s0.finish t) := by
  refine ⟨h.finish s0, fun fit _ => ?_⟩
  have settled := settled_of_onLine (h.peers fit) onLine
  exact ((Preserves.checkAfterPark s0 _).settled (((Upholds.refreshServed t).trans (.startProbation _)).peers
    (h.peers fit)) settled).handOver

/-- A handling that leaves nothing to do. -/
theorem Preserves.finish {s t : State} (h : Preserves s t) (s0 : State) : Preserves s (s0.finish t) := by
  refine ⟨h.toUpholds.finish s0, fun fit still => ?_⟩
  have settled := h.settled fit still
  rw [State.finish, State.settle_of_settled settled]
  exact ((Preserves.checkAfterPark s0 t).settled (h.peers fit) settled).handOver

/-- A step that is taken only when it is due. -/
theorem Preserves.ifDue {s t : State} {due : Bool} (h : due = true → Preserves s (s.finish t)) :
    Preserves s (s.ifDue due t) := by
  unfold State.ifDue; split
  next hd => exact h hd
  next => exact .refl s

/-! ### Station states -/

theorem Preserves.enterJoin (s : State) : Preserves s s.enterJoin := by
  refine ⟨.enterJoin s, fun _ still => ?_⟩
  have served : s.enterJoin.selector.served = s.selector.served := by rw [State.enterJoin_eq]; rfl
  have own : s.enterJoin.selector.own = s.selector.own := by rw [State.enterJoin_eq]; rfl
  have entry : ∀ i, s.enterJoin.peer i = { s.peer i with heard := false } := fun i => by
    rw [State.enterJoin_eq]; exact Six.get_map (fun e => { e with heard := false }) s.peers i
  refine still.congr ?_ served (by rw [State.enterJoin_eq]; rfl) (by rw [State.enterJoin_eq]; rfl)
  exact State.resolved_congr (by rw [State.enterJoin_eq]; rfl) own (by rw [State.enterJoin_eq]; rfl)
    (fun i => by rw [entry]) fun i _ => by rw [entry]

theorem Preserves.wakeLocally (s : State) : Preserves s s.wakeLocally := by
  have given : Preserves s s.giveWake := by rw [State.giveWake_eq]; exact .setLine s _
  exact given.trans (.enterJoin _)

theorem Preserves.respond (s : State) (r : Response) : Preserves s (s.respond r) := .setLink s _

/-- An entry set in fields that no source reads. -/
theorem Preserves.setPeer {s : State} {i : Station} {e' : PeerEntry} (h : EntryFits s i e')
    (trust : e'.state.trusted = (s.peer i).state.trusted) (published : e'.published = (s.peer i).published) :
    Preserves s (s.setPeer i e') := by
  have sources : (s.setPeer i e').resolved = s.resolved := by
    refine State.resolved_congr rfl rfl rfl (fun j => ?_) fun j _ => ?_
    · rw [State.setPeer_peer]; split
      next hj => rw [hj, trust]
      next => rfl
    · rw [State.setPeer_peer]; split
      next hj => rw [hj, published]
      next => rfl
  exact ⟨.setPeer h trust, fun _ => .congr sources rfl rfl rfl⟩

theorem Preserves.directiveLost (s : State) (d : Directive) : Preserves s (s.directiveLost d) := by
  unfold State.directiveLost
  split
  · split
    next h => exact .setPeer (.of_state rfl (by rw [h]; nofun) id) rfl rfl
    next => exact .refl s
  next i =>
    split
    next h =>
      have owed : OwedOnly s (s.owe i) := ⟨rfl, rfl, rfl, rfl, rfl, rfl⟩
      have sources : (s.owe i).resolved = s.resolved := rfl
      exact ⟨owed.upholds fun hs => hs.owe h, fun _ => .congr sources rfl rfl rfl⟩
    next => exact .refl s

theorem Preserves.discardDirectives (s : State) : Preserves s s.discardDirectives :=
  (Preserves.setLine s { s.line with directives := [] }).trans
    (.foldl (fun u (q : Queued Directive) => .directiveLost u q.frame) _ _)

theorem Preserves.parkedLine (s : State) : Preserves s s.parkedLine := ⟨.parkedLine s, fun _ => .congr rfl rfl rfl rfl⟩

theorem Preserves.enterParked (s : State) : Preserves s s.enterParked := by
  have released : Preserves s (s.parkedLine.discardDirectives.setContactor .released 0) :=
    ((Preserves.parkedLine s).trans (.discardDirectives _)).trans (.setEngine _ _)
  unfold State.enterParked
  simp only
  refine Preserves.trans ?_ (.respond _ _)
  split
  · exact released
  · exact released.trans (.setSupervision _ _)

theorem Preserves.tripAtSeal (s : State) (n : TripInput) : Preserves s (s.tripAtSeal n) := by
  unfold State.tripAtSeal; split
  · exact (Works.raise _ _).preserves
  · exact .refl s

theorem Preserves.seal (s : State) : Preserves s s.seal := by
  have set : Preserves s s.sealedSet := .of_same rfl rfl rfl rfl rfl rfl rfl id
  have trips := (((set.trans (.tripAtSeal _ 0)).trans (.tripAtSeal _ 1)).trans (.tripAtSeal _ 2)).trans (.tripAtSeal _ 3)
  let u := (((s.sealedSet.tripAtSeal 0).tripAtSeal 1).tripAtSeal 2).tripAtSeal 3
  have window : Preserves u (u.setStart { u.start with window := 0 }) := .setStart rfl id
  exact (trips.trans window).trans (.enterJoin _)

theorem Preserves.windowExpiry (s : State) : Preserves s s.windowExpiry := by
  unfold State.windowExpiry; split
  · exact (Preserves.seal s).trans (.handOver s _)
  · exact .refl s

/-! ### Resets -/

/-- After a reset nothing serves (R59). -/
theorem afterReset_servers (straps : Straps) (c : Cause) (b : BitVec 4) (l : List Instr) (q : Quantity) :
    (State.afterReset straps c b l).servers q = [] := by
  have invalid : ∀ v ∈ OwnValue.initial straps.role, v.valid = false := by
    intro v hv
    obtain ⟨q, -, rfl⟩ := List.mem_map.1 hv
    rfl
  refine List.filterMap_eq_nil_iff.2 fun i _ => ?_
  have absent : (State.afterReset straps c b l).peer i = PeerEntry.initial := by
    fin_cases i <;> rfl
  rw [State.serves, absent]
  split
  · split
    next v hv =>
      rw [invalid v (List.mem_of_find?_eq_some hv)]; rfl
    next => rfl
  · rfl

theorem settled_afterReset (straps : Straps) (c : Cause) (b : BitVec 4) (l : List Instr) :
    Settled (State.afterReset straps c b l) := by
  refine ⟨?_, .inl rfl⟩
  simp only [State.resolved, State.resolveOrSecondary, State.resolveOrFallback, State.resolveCharger,
    State.firstServer, afterReset_servers]
  rfl

/-- A reset leaves every law to hold, whatever was before. -/
theorem Preserves.afterReset (s : State) (straps : Straps) (c : Cause) (b : BitVec 4) (l : List Instr) :
    Preserves s (State.afterReset straps c b l) := by
  have entry : ∀ i, (State.afterReset straps c b l).peer i = PeerEntry.initial := fun i => by fin_cases i <;> rfl
  have still : (State.afterReset straps c b l).station.riding = false := by
    show (StartControl.initial straps c).station.riding = false
    unfold StartControl.initial; split <;> rfl
  have order : (State.afterReset straps c b l).start.straps = straps := by
    show (StartControl.initial straps c).straps = straps
    unfold StartControl.initial; split <;> rfl
  have quantities : (OwnValue.initial straps.role).map OwnValue.quantity = straps.role.quantities := by
    rw [OwnValue.initial, List.map_map]; exact List.map_id _
  refine ⟨⟨fun _ => ⟨⟨entry _, nofun, nofun⟩, List.nodup_nil, nofun, nofun, fun i hi => ?_⟩, fun _ i => ?_,
    fun _ => ⟨List.Pairwise.nil, nofun⟩, fun _ => ⟨?_, fun _ => rfl⟩, fun _ hr => ?_⟩, fun _ _ => settled_afterReset ..⟩
  · rw [entry] at hi; exact nomatch hi
  · rw [entry]; exact Nat.zero_le _
  · rw [order]; exact quantities
  · rw [still] at hr; exact nomatch hr

end Sys2Proof.Machine
end

section
/-! Every command and the millisecond keep the laws. -/

namespace Sys2Proof.Machine

/-! ### Requests -/

theorem Preserves.clockOut (s : State) : Preserves s s.clockOut := by
  unfold State.clockOut; split
  · exact .setLink s _
  · exact .setLink s _

theorem Preserves.refreshError (s : State) : Preserves s s.refreshError := by
  unfold State.refreshError; simp only; split
  · exact (Preserves.setSupervision s _).trans (Works.raise _ _).preserves
  · exact .setSupervision s _

theorem Preserves.disarmPark (s : State) : Preserves s s.disarmPark := .setStart rfl id

theorem Preserves.takeUp (s : State) (q : Request) : Preserves s (s.takeUp q) := by
  have token : Preserves s (s.tokenRule q) := by
    unfold State.tokenRule; split
    · exact .refreshError s
    · exact .refl s
  have restart : ∀ u : State, Preserves u (u.disarmRestart q) := fun u => by
    unfold State.disarmRestart; split
    · exact .refl u
    · exact .setLink u _
  have park : ∀ u : State, Preserves u (u.parkRule q) := fun u => by
    unfold State.parkRule; split
    · exact .refl u
    · exact .disarmPark u
  exact (token.trans (restart _)).trans (park _)

theorem Preserves.deliver (a : Answer) : Preserves a.1 (deliver a) := by
  unfold Machine.deliver; split
  · exact .respond _ _
  · exact .refl _

/-- A request keeps the laws where its own rule does in the states that take it. -/
theorem Preserves.takeRequest {q : Request} {effect : State → Answer}
    (h : ∀ t : State, q.takenIn t.station = true → Preserves t (effect t).1) (s : State) :
    Preserves s (s.takeRequest q effect) := by
  unfold State.takeRequest; split
  · exact (Preserves.clockOut s).trans (.respond _ _)
  · refine Preserves.trans ?_ (.handOver s _)
    refine Preserves.trans ?_ (.deliver _)
    refine ((Preserves.clockOut s).trans (.takeUp _ q)).trans ?_
    split
    next taken => exact h _ taken
    next => exact .refl _

/-- A refresh in CONFIG, JOIN, RUN and PARKING serves what the sources give. -/
theorem Preserves.refreshed {s t : State} (h : Upholds s t) (st : resolving t.station)
    (queue : t.isolation.queue = s.isolation.queue) (probation : t.isolation.probation = s.isolation.probation) :
    Preserves s t.refreshServed :=
  ⟨h.trans (.refreshServed t), fun _ still => State.refreshServed_settled st (by rw [queue, probation]; exact still.2)⟩

theorem Preserves.setupRule {s : State} (config : s.station = .config) (parameter : BitVec 8)
    (v : BitVec 16) : Preserves s (s.setupRule parameter v).1 := by
  unfold State.setupRule; split
  · exact .refl s
  · have stored : ∀ c, Upholds s (s.setConfig c) := fun c => .of_same rfl rfl rfl rfl rfl rfl id
    exact .refreshed (stored _) (by show resolving s.station; rw [config]; exact ⟨nofun, nofun⟩) rfl rfl

theorem Preserves.publishRule {s : State} (st : resolving s.station) (quantity : BitVec 8)
    (v : BitVec 16) : Preserves s (s.publishRule quantity v).1 := by
  unfold State.publishRule; split
  · exact .refl s
  · exact .refreshed (.setOwn (storeOwn_quantity ..)) st rfl rfl

theorem Preserves.refreshRule (s : State) (token : BitVec 8) : Preserves s (s.refreshRule token).1 := by
  have complete : Preserves s s.completeRefresh := by
    unfold State.completeRefresh State.startSupervision; simp only
    repeat' split
    all_goals exact .of_same rfl rfl rfl rfl rfl rfl rfl id
  unfold State.refreshRule; split
  · exact .setSupervision s _
  · exact complete
  · exact .refreshError s

theorem Preserves.withdrawRule (s : State) (code : BitVec 8) : Preserves s (s.withdrawRule code).1 := by
  unfold State.withdrawRule; split
  · split
    · split
      · exact (Works.conditionGone _ _).preserves
      · exact .refl s
    · exact .refl s
  · exact .refl s

theorem Preserves.clearRule (s : State) (code : BitVec 8) : Preserves s (s.clearRule code).1 := by
  unfold State.clearRule; split
  · exact .refl s
  · split
    · split
      · exact .refl s
      · exact (EngineStep.removeRecord _ _).works.preserves
    · exact .refl s

theorem Preserves.queryRule (s : State) (code part : BitVec 8) : Preserves s (s.queryRule code part).1 := by
  have returned : ∀ r p, Preserves s (s.returned r p).1 := fun r _ => .setEngine s _
  unfold State.queryRule
  split
  · split
    · split
      · exact returned _ _
      · exact .refl s
    · exact .refl s
  · split
    · split
      · exact returned _ _
      · split
        · exact returned _ _
        · exact .refl s
    · exact .refl s

theorem Preserves.rejoinRule (s : State) : Preserves s s.rejoinRule.1 := by
  unfold State.rejoinRule; split
  · exact .refl s
  · exact .refl s
  · split
    · exact .refl s
    · exact .setIsolation rfl rfl rfl

theorem Preserves.restartRule (s : State) (token : BitVec 8) : Preserves s (s.restartRule token).1 := by
  unfold State.restartRule; split
  · exact .setLink s _
  · exact .setLink s _

theorem Preserves.parkEnterRule (s : State) : Preserves s s.parkEnterRule.1 := by
  unfold State.parkEnterRule; split
  next allowed =>
    have run : s.station.riding = true := by
      unfold State.parkAllowed at allowed
      simp only [Bool.and_eq_true, decide_eq_true_eq] at allowed
      obtain ⟨⟨⟨⟨⟨-, run⟩, -⟩, -⟩, -⟩, -⟩ := allowed
      rw [run]; rfl
    have parking : Preserves s.disarmPark (s.disarmPark.setStation .parking) := .setStart rfl fun _ => run
    exact ((Preserves.disarmPark s).trans parking).trans (.setLine _ _)
  next => exact .disarmPark s

theorem Preserves.readAnswer (s : State) (q : Request) (p : Option (BitVec 48)) :
    Preserves s (s.readAnswer q p).1 := by
  unfold State.readAnswer; split <;> exact .refl s

theorem Preserves.reportRule (s : State) (code : BitVec 8) (level : BitVec 4) (fm fr : BitVec 9)
    (measured : Option (BitVec 16)) : Preserves s (s.reportRule code level fm fr measured).1 := by
  unfold State.reportRule; split
  · exact (Works.raise _ _).preserves
  · exact .refl s

/-! ### Handlings that leave the station on the line -/

theorem Preserves.losePeer {s : State} {i : Station} (due : s.lossDue i = true) :
    Preserves s (s.finish (s.losePeer i)) := by
  have riding : s.station.riding = true := by
    unfold State.lossDue at due; simp only [Bool.and_eq_true] at due; exact due.1.1
  refine .finish_onLine (.losePeer due) ?_ s
  rw [State.losePeer, (Course.updatePeer s i _).onLine]
  cases h : s.station <;> simp_all [StationState.riding, StationState.onLine]

theorem Preserves.reportSelfContained (s : State) (i : Station) : Preserves s (s.finish (s.reportSelfContained i)) := by
  by_cases run : s.station = .run
  · refine .finish_onLine (.reportSelfContained s i) ?_ s
    rw [(Course.reportSelfContained s i).onLine, run]; rfl
  · have same : s.reportSelfContained i = s := if_neg fun h => run h.1
    rw [same]; exact (Preserves.refl s).finish s

theorem State.expirySent_onLine {later : List Later} {s : State} (h : s.station.onLine = true) :
    (s.expirySent later).station.onLine = true := by
  have peers : (s.expiryPeers later).station.onLine = true :=
    (Course.expiryPeers later s).onLine.trans (expiryRoles_station_onLine later h)
  rw [State.expirySent, State.periodicBeacon_station, (Course.expirySelected later s).onLine, mapOwn_station]
  exact peers

theorem State.countDiscovery_onLine {later : List Later} {u : State} (h : u.station.onLine = true) :
    (u.countDiscovery later).station.onLine = true := by
  unfold countDiscovery
  split
  · simp only
    split
    · rw [enterRun_station]; rfl
    · exact h
  · exact h

theorem Preserves.ownExpiry (later : List Later) (s : State) : Preserves s (s.ownExpiry later) := by
  by_cases onLine : s.station.onLine = true
  · rw [State.ownExpiry_eq later onLine]
    exact .finish_onLine (.expiryEnded later s) (State.countDiscovery_onLine (State.expirySent_onLine onLine)) s
  · rw [State.ownExpiry, if_neg onLine]; exact .refl s

/-! ### Frames -/

theorem State.countMuted_start (s : State) (i : Station) : (s.countMuted i).start = s.start := by
  have given : ∀ u : State, (u.giveCease i).start = u.start := fun u => by
    unfold giveCease; simp only; repeat' split
    all_goals rfl
  unfold countMuted; simp only; split
  · exact given _
  · rfl

theorem State.enqueueRejoin_start (s : State) (i : Station) : (s.enqueueRejoin i).start = s.start := by
  unfold enqueueRejoin; split <;> rfl

theorem Course.endProbation (s : State) (i : Station) : Course s (s.endProbation i) :=
  .setIsolation s rfl fun _ h => (List.mem_filter.1 h).1

theorem Course.passProbation (s : State) (i : Station) : Course s (s.passProbation i) :=
  ((Course.updatePeer s i _).trans (.endProbation _ i)).trans (.giveReadmit _ i)

theorem Course.abandonProbation (s : State) (i : Station) : Course s (s.abandonProbation i) :=
  (Course.updatePeer s i _).trans (.endProbation _ i)

theorem Course.beaconAtProbation (s : State) (b : Beacon) : Course s (s.beaconAtProbation b) := by
  have clean : ∀ (t : State) (p : Probation), Course t (t.countClean b.sender p) := fun t p => by
    have counted : ∀ q, Course t (t.setIsolation { t.isolation with probation := q }) := fun q =>
      .setIsolation t rfl fun _ h => h
    unfold State.countClean; simp only; split
    · exact (counted _).trans (.passProbation _ _)
    · exact counted _
  unfold State.beaconAtProbation; split
  · unfold State.beaconOnProbation; simp only
    refine (Course.updatePeer s b.sender ((s.peer b.sender).storeScored b)).trans ?_
    split
    · exact .abandonProbation _ _
    · split
      · exact .failProbation _ _
      · split
        · exact clean _ _
        · exact .refl _
  · exact .updatePeer s _ _

/-- A beacon leaves the station on the line (a raise may take it from PARKING to RUN). -/
theorem State.takeBeacon_onLine (s : State) (b : Beacon) :
    (s.takeBeacon b).station.onLine = s.station.onLine := by
  have queued : ∀ t : State, (t.enqueueRejoin b.sender).station = t.station := fun t =>
    congrArg StartControl.station (t.enqueueRejoin_start b.sender)
  have trusted : (s.beaconAtTrusted b).station.onLine = s.station.onLine := by
    unfold beaconAtTrusted; simp only; split
    · rw [peerRestarts, queued]; exact (Course.updatePeer s _ _).onLine
    · split
      · exact (Course.updatePeer s _ _).onLine
      · exact (Course.hearScored s _ _).onLine
  unfold takeBeacon
  split
  · exact (Course.hearPeer s _ _).onLine
  · exact (Course.hearScored s _ _).onLine
  · exact trusted
  · exact trusted
  · rw [beaconAtLost, queued]; exact (Course.updatePeer s _ _).onLine
  · have counted : ∀ u : State, (u.countMuted b.sender).station = u.station := fun u =>
      congrArg StartControl.station (u.countMuted_start b.sender)
    unfold beaconAtMuted; simp only; split
    · rw [queued, counted]; rfl
    · rw [counted]; rfl
  · exact (Course.beaconAtProbation s b).onLine

theorem State.countMuted_onLine (s : State) (i : Station) : (s.countMuted i).station.onLine = s.station.onLine := by
  rw [station, s.countMuted_start]; rfl

theorem State.goodFrame_onLine (s : State) : s.goodFrame.station.onLine = s.station.onLine := by
  rw [station, s.goodFrame_start]; rfl

/-- Work after a change of blocks that do not hold the station state. -/
theorem Works.onLine {s t : State} (h : Works s t) : t.station.onLine = s.station.onLine := h.course.onLine

theorem State.damaged_onLine (s : State) (i : Station) : (s.damaged i).station.onLine = s.station.onLine := by
  have bad : s.badFrame.station.onLine = s.station.onLine := by
    unfold badFrame; simp only; split
    · exact (Works.raise _ _).onLine
    · rfl
  unfold damaged; split
  · exact bad
  · unfold chargeBadFrame; simp only; split
    · exact (Course.updateScored s i _).onLine
    · exact (Course.updateScored s i _).onLine
    · exact ((Course.updatePeer s i _).trans (.failProbation _ i)).onLine
    all_goals rfl

theorem State.recheckPopulation_onLine (s : State) : s.recheckPopulation.station.onLine = s.station.onLine := by
  unfold recheckPopulation; split
  · exact (Works.populationCheck s).onLine
  · rfl

theorem State.ownClash_onLine (s : State) : s.ownClash.station.onLine = s.station.onLine :=
  (s.setPlace _ _).recheckPopulation_onLine

theorem State.hearRole_onLine (s : State) (i : Station) (r : Role) :
    (s.hearRole i r).station.onLine = s.station.onLine := by
  unfold hearRole; split
  · exact recheckPopulation_onLine _
  · split
    · rfl
    · exact recheckPopulation_onLine _

theorem State.hearRole_own (s : State) (i : Station) (r : Role) : (s.hearRole i r).own = s.own := by
  have rechecked : ∀ u : State, u.recheckPopulation.own = u.own := fun u => by
    unfold State.recheckPopulation; split
    · exact (Works.populationCheck u).own
    · rfl
  unfold State.hearRole; split
  · exact rechecked _
  · split
    · rfl
    · exact rechecked _

/-- A frame heard keeps the laws where what its kind does keeps them (R26). -/
theorem Preserves.hear {s : State} {wf : Bool} {i : Station} {take : State → State}
    (h : ∀ t : State, t.own = s.own → i ≠ s.own → Upholds t (take t)
      ∧ (take t).station.onLine = t.station.onLine) : Preserves s (s.hear wf i take) := by
  unfold State.hear
  split
  next onLine =>
    split
    · exact .finish_onLine (.damaged s i) ((s.damaged_onLine i).trans onLine) s
    · split
      · exact .finish_onLine ((Upholds.goodFrame s).trans (.ownClash _))
          ((s.goodFrame.ownClash_onLine.trans s.goodFrame_onLine).trans onLine) s
      next foreign =>
        obtain ⟨upholds, stays⟩ := h s.goodFrame s.goodFrame_own foreign
        exact .finish_onLine ((Upholds.goodFrame s).trans upholds) ((stays.trans s.goodFrame_onLine).trans onLine) s
  next => exact .refl s

theorem State.takeAlert_onLine (s : State) (a : Alert) : (s.takeAlert a).station.onLine = s.station.onLine := by
  unfold takeAlert; simp only; split
  · exact (Course.hearPeer s _ _).onLine
  · exact (Course.hearPeer s _ _).onLine
  · rfl
  · split
    · exact ((Course.setPeer s _ _).trans (.failProbation _ _)).onLine
    · rfl
  · exact s.countMuted_onLine _
  all_goals rfl

theorem State.takeCease_onLine (s : State) (c : Cease) : (s.takeCease c).station.onLine = s.station.onLine := by
  have ceased : (s.ceased c).station.onLine = s.station.onLine := by
    refine (Works.compareQuorum _).onLine.trans ?_
    unfold abandonRejoin; split
    · exact (Works.raise _ _).onLine
    · rfl
  unfold takeCease; split
  · split
    · exact ceased
    · split
      · exact (Course.failProbation s _).onLine
      · rfl
  · rfl

theorem State.takeReadmit_onLine (s : State) (r : Readmit) : (s.takeReadmit r).station.onLine = s.station.onLine := by
  unfold takeReadmit; split
  · exact (Works.compareQuorum _).onLine
  · rfl

theorem Preserves.wakeByFrame (s : State) (i : Station) : Preserves s (s.wakeByFrame i) := by
  have woken : s.enterJoin.station.onLine = true := by rw [State.enterJoin_eq]; rfl
  refine .finish_onLine ?_ ?_ s
  · split
    · exact (Upholds.enterJoin s).trans (.ownClash _)
    · exact .enterJoin s
  · split
    · exact (State.ownClash_onLine _).trans woken
    · exact woken

/-! ### Sending -/

theorem Preserves.clearFailures (s : State) : Preserves s s.clearFailures := by
  unfold State.clearFailures; simp only; split
  · exact (Preserves.setLine s _).trans (Works.conditionGone _ _).preserves
  · exact .setLine s _

theorem Preserves.beaconSent (s : State) : Preserves s s.beaconSent := by
  have emptied : Preserves s (s.setLine { s.line with sequence := s.line.sequence + 1 }).emptyBeaconSlot :=
    (Preserves.setLine s _).trans (.setLine _ _)
  unfold State.beaconSent; split
  · exact .refl s
  · simp only; split
    · exact emptied.trans (.enterParked _)
    · exact emptied

theorem Preserves.frameSent (s : State) (k : TxQueue) : Preserves s (s.frameSent k) := by
  cases k
  case beacon => exact .beaconSent s
  all_goals exact .setLine s _

theorem Preserves.frameFailed (s : State) (k : TxQueue) : Preserves s (s.frameFailed k) := by
  cases k
  case alert =>
    show Preserves s s.alertFailed
    unfold State.alertFailed; split
    · exact .refl s
    · exact .setLine s _
  case directive =>
    show Preserves s s.directiveFailed
    unfold State.directiveFailed; split
    · exact .refl s
    · split
      · exact (Preserves.setLine s _).trans (.directiveLost _ _)
      · exact .setLine s _
  case beacon =>
    have emptied : Preserves s s.emptyBeaconSlot := .setLine s _
    show Preserves s s.beaconFailed
    unfold State.beaconFailed; split
    · exact .refl s
    · split
      · split
        · exact emptied.trans (Works.abandonPark _).preserves
        · exact emptied
      · exact .setLine s _
  case wake =>
    show Preserves s s.wakeFailed
    unfold State.wakeFailed; split
    · exact .refl s
    · exact .setLine s _

theorem Preserves.raiseTxFail (s : State) (n : Nat) : Preserves s (s.raiseTxFail n) := by
  unfold State.raiseTxFail; split
  · exact (Works.raise _ _).preserves
  · exact .refl s

/-! ### The line, the trip inputs and the timers -/

theorem Preserves.setStuck (s : State) (c : StuckLine) : Preserves s (s.setStuck c) := .setLine s _

theorem Preserves.stick (s : State) : Preserves s s.stick := by
  unfold State.stick; split
  · exact ((Preserves.setLine s _).trans (.setStuck _ _)).trans (Works.raise _ _).preserves
  · exact .setStuck s _
  · exact .refl s

theorem Preserves.unstick (s : State) : Preserves s s.unstick :=
  (Preserves.setStuck s .clear).trans (Works.conditionGone _ _).preserves

theorem Preserves.setTrip (s : State) (n : TripInput) (l : Bool) : Preserves s (s.setTrip n l) :=
  .of_same rfl rfl rfl rfl rfl rfl rfl id

theorem Preserves.arrive (s : State) (n : TripInput) : Preserves s (s.arrive n) := by
  unfold State.arrive; split
  · exact .refl s
  · exact .refl s
  · exact (Works.raise _ _).preserves
  · exact (Works.raise _ _).preserves
  · exact (Works.raise _ _).preserves
  · exact (Preserves.wakeLocally s).trans (Works.raise _ _).preserves

theorem Preserves.tripUp (s : State) (n : TripInput) : Preserves s (s.tripUp n) := by
  unfold State.tripUp; simp only; split
  · exact ((Preserves.setTrip s n true).trans (.arrive _ n)).finish s
  · exact .setTrip s n true

theorem Preserves.tripDown (s : State) (n : TripInput) : Preserves s (s.tripDown n) := by
  unfold State.tripDown; simp only; split
  · refine Preserves.finish ?_ s
    split
    · exact .setTrip s n false
    · exact (Preserves.setTrip s n false).trans (Works.conditionGone _ _).preserves
  · exact .setTrip s n false

theorem Preserves.supervisionExpiry (s : State) : Preserves s s.supervisionExpiry :=
  (Works.raise _ _).preserves.trans (.setSupervision _ _)

theorem Preserves.rise (s : State) (r : Ramp) : Preserves s (s.rise r) := by
  cases r <;> exact .setEnvelope s _

theorem Preserves.tickRise (r : Ramp) (s : State) : Preserves s (s.tickRise r) := by
  unfold State.tickRise; split
  · split
    · exact (Preserves.rise s r).finish s
    · cases r <;> exact .setEnvelope s _
  · exact .refl s

theorem Preserves.tickSupervision (s : State) : Preserves s s.tickSupervision := by
  unfold State.tickSupervision; split
  · split
    · exact (Preserves.supervisionExpiry s).finish s
    · exact .setSupervision s _
  · exact .refl s

theorem Preserves.tickLine (s : State) : Preserves s s.tickLine := by
  unfold State.tickLine; split
  · split
    · exact (Preserves.unstick s).finish s
    · exact .setStuck s _
  · exact .refl s

theorem Preserves.tickBeacon (s : State) : Preserves s s.tickBeacon := by
  unfold State.tickBeacon; split
  · split
    · exact .ownExpiry [] s
    · exact .setStart rfl id
  · exact .refl s

theorem Preserves.tickWindow (s : State) : Preserves s s.tickWindow := by
  unfold State.tickWindow; split
  · split
    · exact .windowExpiry s
    · exact .setStart rfl id
  · exact .refl s

theorem Preserves.tick (s : State) : Preserves s s.tick :=
  (((((Preserves.tickRise .motoring s).trans (.tickRise .regen _)).trans (.tickSupervision _)).trans
    (.tickLine _)).trans (.tickBeacon _)).trans (.tickWindow _)

end Sys2Proof.Machine
end

section
/-! O58: every command, and the millisecond of an empty queue, keeps the laws of the peer view, the rejoin queue and the
selector. -/

namespace Sys2Proof.Machine

/-- A command keeps the laws in every state. -/
def Preserving (i : Instr) : Prop := ∀ s, ∃ t, exec i s = .next t ∧ Preserves s t

/-! ### Requests -/

theorem resolving_of_publish {x : StationState} (h : Request.publish.takenIn x = true) : resolving x := by
  constructor <;> rintro rfl <;> exact nomatch h

theorem Preserving.setup (p : BitVec 8) (v : BitVec 16) : Preserving (.setup p v) := fun s =>
  ⟨_, rfl, .takeRequest (fun _ taken => .setupRule (by simpa [Request.takenIn] using taken) p v) s⟩

theorem Preserving.seal : Preserving .seal := fun s => ⟨_, rfl, .takeRequest (fun t _ => .seal t) s⟩

theorem Preserving.publish (p : BitVec 8) (v : BitVec 16) : Preserving (.publish p v) := fun s =>
  ⟨_, rfl, .takeRequest (fun _ taken => .publishRule (resolving_of_publish taken) p v) s⟩

theorem Preserving.restart (token : BitVec 8) (straps : Straps) : Preserving (.restart token straps) := fun s => by
  by_cases accepted : s.restartAccepted token = true
  · exact ⟨_, if_pos accepted, (Preserves.afterReset s straps _ _ _).trans (.setLink _ _)⟩
  · exact ⟨_, if_neg accepted, .takeRequest (fun t _ => .restartRule t token) s⟩

theorem Preserves.clearCauseRule (s : State) : Preserves s s.clearCauseRule.1 := .setStart rfl id

theorem Preserves.parkArmRule (s : State) : Preserves s s.parkArmRule.1 := .setStart rfl id

theorem Preserving.wake : Preserving .wakeRequest := fun s =>
  ⟨_, rfl, .takeRequest (fun t _ => .wakeLocally t) s⟩

/-! ### Consequences of an own expiry -/

theorem Preserves.ifDue_of {s t : State} (due : Bool) (h : Preserves s t) : Preserves s (s.ifDue due t) :=
  .ifDue fun _ => h.finish s

/-- A consequence due in RUN and PARKING alone. -/
theorem Preserves.ifDue_riding {s t : State} {due : Bool} (riding : due = true → s.station.riding = true)
    (h : Upholds s t) (course : Course s t) : Preserves s (s.ifDue due t) := by
  refine .ifDue fun hd => .finish_onLine h ?_ s
  rw [course.onLine]
  have ride := riding hd
  revert ride
  cases s.station <;> simp [StationState.riding, StationState.onLine]

theorem Preserving.entryToRun : Preserving .entryToRun := fun s =>
  ⟨_, rfl, .ifDue fun _ => .finish_onLine (.enterRun s) (by rw [State.enterRun_station]; rfl) s⟩

theorem Preserving.freshnessExpiry (q : Quantity) : Preserving (.freshnessExpiry q) := fun s =>
  ⟨_, rfl, .ifDue fun due => .finish_onLine (.mapOwn s (expireFresh_quantity q)) due s⟩

theorem Preserving.persistenceExpiry (c : Check) : Preserving (.persistenceExpiry c) := fun s => by
  refine ⟨_, rfl, .ifDue_riding (fun due => ?_) ?_ ?_⟩
  · simp only [Bool.and_eq_true] at due; exact due.1
  · cases c <;> exact .setDisputed s _ _
  · cases c <;> exact .setDisputed s _ _

theorem Preserving.brakeThrottleCount : Preserving .brakeThrottleCount := fun s => by
  refine ⟨_, rfl, .ifDue_riding (fun due => ?_) (.beginBrake s) ?_⟩
  · simp only [State.brakeDue, Bool.and_eq_true] at due; exact due.1.1
  · have marked : Course s (s.setBrake s.selector.brakeCount true) := .setSelector s rfl
    exact marked.trans (Works.raise _ _).course

theorem Preserves.dropCease (s : State) (i : Station) : Preserves s (s.dropCease i) := by
  refine Preserves.trans ?_ (Works.compareQuorum _).preserves
  exact .setIsolation rfl rfl rfl

theorem Preserves.dropReadmit (s : State) (i : Station) : Preserves s (s.dropReadmit i) := by
  refine Preserves.trans ?_ (Works.compareQuorum _).preserves
  exact .setIsolation rfl rfl rfl

theorem Preserves.rejoinTimedOut (s : State) : Preserves s s.rejoinTimedOut :=
  .of_same rfl rfl rfl rfl rfl rfl rfl id

/-! ### Sending -/

theorem Preserving.attemptStart : Preserving .attemptStart := fun s => by
  cases h : s.offered with
  | none => exact ⟨s, by show execAttemptStart s = _; rw [execAttemptStart, h], .refl s⟩
  | some k => exact ⟨_, by show execAttemptStart s = _; rw [execAttemptStart, h], .setLine s _⟩

theorem Preserving.lostContention : Preserving .lostContention := fun s => by
  cases h : s.line.attempt with
  | none => exact ⟨s, by show execLostContention s = _; rw [execLostContention, h], .refl s⟩
  | some a => exact ⟨_, by show execLostContention s = _; rw [execLostContention, h], .setLine s _⟩

theorem Preserving.attemptSuccess : Preserving .attemptSuccess := fun s => by
  cases h : s.line.attempt with
  | none => exact ⟨s, by show execAttemptSuccess s = _; rw [execAttemptSuccess, h], .refl s⟩
  | some a =>
    exact ⟨_, by show execAttemptSuccess s = _; rw [execAttemptSuccess, h],
      ((Preserves.clearFailures s).trans (.frameSent _ _)).finish s⟩

theorem Preserving.attemptFailure : Preserving .attemptFailure := fun s => by
  cases h : s.line.attempt with
  | none => exact ⟨s, by show execAttemptFailure s = _; rw [execAttemptFailure, h], .refl s⟩
  | some a =>
    exact ⟨_, by show execAttemptFailure s = _; rw [execAttemptFailure, h],
      (((Preserves.setLine s _).trans (.frameFailed _ _)).trans (.raiseTxFail _ _)).finish s⟩

/-! ### Receiving -/

theorem Preserving.beaconReceived (b : Beacon) : Preserving (.beaconReceived b) := fun s => by
  refine ⟨_, rfl, .hear fun t own foreign => ⟨(Upholds.hearRole t _ _).trans (.takeBeacon ?_), ?_⟩⟩
  · rw [State.hearRole_own, own]; exact foreign
  · rw [State.takeBeacon_onLine, State.hearRole_onLine]

theorem Preserving.alertReceived (a : Alert) : Preserving (.alertReceived a) := fun _ =>
  ⟨_, rfl, .hear fun t _ _ => ⟨.takeAlert t a, t.takeAlert_onLine a⟩⟩

theorem Preserving.ceaseReceived (c : Cease) : Preserving (.ceaseReceived c) := fun _ =>
  ⟨_, rfl, .hear fun t _ _ => ⟨(Upholds.countMuted t _).trans (.takeCease _ c),
    (State.takeCease_onLine _ c).trans (t.countMuted_onLine _)⟩⟩

theorem Preserving.readmitReceived (r : Readmit) : Preserving (.readmitReceived r) := fun _ =>
  ⟨_, rfl, .hear fun t _ _ => ⟨(Upholds.countMuted t _).trans (.takeReadmit _ r),
    (State.takeReadmit_onLine _ r).trans (t.countMuted_onLine _)⟩⟩

theorem Preserving.wakeFrameReceived (i : Station) : Preserving (.wakeFrameReceived i) := fun s => by
  refine ⟨_, rfl, ?_⟩
  split
  · exact .wakeByFrame s i
  · exact .hear fun t _ _ => ⟨.countMuted t i, t.countMuted_onLine i⟩

theorem Preserving.ownNumberFrame (k : FrameKind) : Preserving (.ownNumberFrame k) := fun s => by
  refine ⟨_, rfl, ?_⟩
  split
  · exact .wakeByFrame s _
  · exact .hear fun t _ _ => ⟨.refl t, rfl⟩

theorem Preserving.attributedBadFrame (key : Fin 8) : Preserving (.attributedBadFrame key) := fun s => by
  refine ⟨_, rfl, ?_⟩
  split
  · exact .hear fun t _ _ => ⟨.refl t, rfl⟩
  · exact .refl s

theorem Preserving.unattributedBadFrame : Preserving .unattributedBadFrame := fun s => by
  refine ⟨_, rfl, ?_⟩
  split
  next onLine =>
    have same : s.damaged s.own = s.badFrame := if_pos rfl
    exact .finish_onLine (.badFrame s) (by rw [← same, s.damaged_onLine]; exact onLine) s
  next => exact .refl s

theorem Preserving.lineStuck : Preserving .lineStuck := fun s => by
  refine ⟨_, rfl, ?_⟩
  split
  · exact (Preserves.stick s).finish s
  · exact .refl s

theorem Preserving.lineStuckGone : Preserving .lineStuckGone := fun s => by
  refine ⟨_, rfl, ?_⟩
  split
  · exact (Preserves.unstick s).finish s
  · exact .refl s

theorem Preserving.lineReleased : Preserving .lineReleased := fun s => by
  refine ⟨_, rfl, ?_⟩
  split
  · exact .setStuck s _
  · exact .refl s

theorem Preserving.tripArrival (n : TripInput) : Preserving (.tripArrival n) := fun s => by
  refine ⟨_, rfl, ?_⟩
  split
  · exact .refl s
  · exact .tripUp s n

theorem Preserving.tripDeassert (n : TripInput) : Preserving (.tripDeassert n) := fun s => by
  refine ⟨_, rfl, ?_⟩
  split
  · exact .tripDown s n
  · exact .refl s

/-! ### Every command -/

/-- Every command keeps the laws. -/
theorem preserving : ∀ i : Instr, Preserving i
  | .powerOn straps => fun s => ⟨_, rfl, .afterReset s straps _ _ _⟩
  | .pin straps => fun s => ⟨_, rfl, .afterReset s straps _ _ _⟩
  | .configWindowExpiry => fun s => ⟨_, rfl, .windowExpiry s⟩
  | .incompleteTransaction _ => fun s => ⟨_, rfl, .refl s⟩
  | .emptyRequest => fun s => ⟨_, rfl, .clockOut s⟩
  | .badRequest _ => fun s => ⟨_, rfl, .takeRequest (fun t _ => .refl t) s⟩
  | .setup p v => .setup p v
  | .seal => .seal
  | .publish p v => .publish p v
  | .report code level fm fr measured => fun s =>
    ⟨_, rfl, .takeRequest (fun t _ => .reportRule t code level fm fr measured) s⟩
  | .withdraw code => fun s => ⟨_, rfl, .takeRequest (fun t _ => .withdrawRule t code) s⟩
  | .clear code => fun s => ⟨_, rfl, .takeRequest (fun t _ => .clearRule t code) s⟩
  | .query code part => fun s => ⟨_, rfl, .takeRequest (fun t _ => .queryRule t code part) s⟩
  | .readView _ _ => fun s => ⟨_, rfl, .takeRequest (fun t _ => .readAnswer t _ _) s⟩
  | .readEnvelope => fun s => ⟨_, rfl, .takeRequest (fun t _ => .setEnvelope t _) s⟩
  | .readStack _ => fun s => ⟨_, rfl, .takeRequest (fun t _ => .readAnswer t _ _) s⟩
  | .readCause => fun s => ⟨_, rfl, .takeRequest (fun t _ => .readAnswer t _ _) s⟩
  | .clearCause => fun s => ⟨_, rfl, .takeRequest (fun t _ => .clearCauseRule t) s⟩
  | .refresh token => fun s => ⟨_, rfl, .takeRequest (fun t _ => .refreshRule t token) s⟩
  | .rejoin => fun s => ⟨_, rfl, .takeRequest (fun t _ => .rejoinRule t) s⟩
  | .restart token straps => .restart token straps
  | .parkArm => fun s => ⟨_, rfl, .takeRequest (fun t _ => .parkArmRule t) s⟩
  | .parkEnter => fun s => ⟨_, rfl, .takeRequest (fun t _ => .parkEnterRule t) s⟩
  | .wakeRequest => .wake
  | .ownBeaconExpiry later => fun s => ⟨_, rfl, .ownExpiry later s⟩
  | .entryToRun => .entryToRun
  | .clashAgeExpiry _ => fun s => ⟨_, rfl, .ifDue_of _ (.populationCheck s)⟩
  | .peerLoss _ => fun _ => ⟨_, rfl, .ifDue .losePeer⟩
  | .selfContainedCount i => fun s => ⟨_, rfl, .ifDue fun _ => .reportSelfContained s i⟩
  | .freshnessExpiry q => .freshnessExpiry q
  | .persistenceExpiry c => .persistenceExpiry c
  | .brakeThrottleCount => .brakeThrottleCount
  | .dwellEnd code => fun s => ⟨_, rfl, .ifDue_of _ (EngineStep.removeRecord s code).works.preserves⟩
  | .releaseCountExpiry => fun s => ⟨_, rfl, .ifDue_of _ (.setEngine s _)⟩
  | .rejoinTimeout => fun s => ⟨_, rfl, .ifDue_of _ (.rejoinTimedOut s)⟩
  | .ceasePlaceExpiry i => fun s => ⟨_, rfl, .ifDue_of _ (.dropCease s i)⟩
  | .readmitPlaceExpiry i => fun s => ⟨_, rfl, .ifDue_of _ (.dropReadmit s i)⟩
  | .supervisionExpiry => fun s => ⟨_, rfl, .ifDue_of _ (.supervisionExpiry s)⟩
  | .riseTimerExpiry r => fun s => ⟨_, rfl, .ifDue_of _ (.rise s r)⟩
  | .tripArrival n => .tripArrival n
  | .tripDeassert n => .tripDeassert n
  | .attemptStart => .attemptStart
  | .lostContention => .lostContention
  | .attemptSuccess => .attemptSuccess
  | .attemptFailure => .attemptFailure
  | .beaconReceived b => .beaconReceived b
  | .alertReceived a => .alertReceived a
  | .ceaseReceived c => .ceaseReceived c
  | .readmitReceived r => .readmitReceived r
  | .wakeFrameReceived i => .wakeFrameReceived i
  | .ownNumberFrame k => .ownNumberFrame k
  | .attributedBadFrame key => .attributedBadFrame key
  | .unattributedBadFrame => .unattributedBadFrame
  | .lineStuck => .lineStuck
  | .lineStuckGone => .lineStuckGone
  | .lineReleased => .lineReleased

theorem step_preserves {s t : State} (h : step s = .next t) : Preserves s t := by
  unfold step at h
  split at h
  next => cases h; exact .tick s
  next i rest _ =>
    obtain ⟨u, next, preserves⟩ := preserving i { s with pending := rest }
    rw [next] at h
    cases h
    exact (Preserves.of_same (s := s) (t := { s with pending := rest }) rfl rfl rfl rfl rfl rfl rfl id).trans preserves

/-- Settles O58: each command and the millisecond keep every law, and the end of a handling settles what is left. -/
theorem stepKeepsPeersInOrder : Obligations.StepKeepsPeersInOrder := by
  intro s t h
  have keeps := step_preserves h
  refine ⟨fun own rejoin still => ?_, keeps.scores, keeps.owed, keeps.selector, keeps.conditions⟩
  obtain ⟨own', rejoin'⟩ := keeps.peers ⟨own, rejoin⟩
  exact ⟨own', rejoin', keeps.settled ⟨own, rejoin⟩ still⟩

end Sys2Proof.Machine
end

section
/-! A trusted peer that goes down outside an own expiry: PEER-DOWN begins, the served values follow, and the handover. -/

namespace Sys2Proof.Machine

/-- PEER-DOWN(i) as it stands once it has been raised for an absent record (R50). -/
def DownCreated (i : Station) (c : DownCause) (s t : State) : Prop :=
  ∃ r ∈ t.record (32 + i.val), r.level = downLevel (s.start.population.get i).role ∧ r.fm = 256 ∧ r.fr = 256
    ∧ r.life = .holds ∧ r.unread = true ∧ r.param = some { station := i, cause := some c }

/-- The entry of a trusted peer goes down (R45, R50, R137). -/
theorem State.updatePeer_bare_of_fallen {s : State} {i : Station} {e' : PeerEntry}
    (trusted : (s.peer i).state.trusted = true) (down : e'.state.down = true) :
    (s.updatePeer i e').bare (32 + i.val)
      = ((s.entered i e').raise ((s.entered i e').downRaise i e'.downCause)).bare (32 + i.val) := by
  rw [updatePeer_bare_down, downEvaluated, evalDown, if_pos down, down_of_trusted trusted]; rfl

theorem DownCreated.of_updatePeer {s t : State} {i : Station} {e' : PeerEntry}
    (trusted : (s.peer i).state.trusted = true) (down : e'.state.down = true) (absent : s.record (32 + i.val) = none)
    (free : s.generalFull = false) (kept : t.bare (32 + i.val) = (s.updatePeer i e').bare (32 + i.val)) :
    DownCreated i e'.downCause s t := by
  let u := s.entered i e'
  let a := u.downRaise i e'.downCause
  have absent' : u.bare (32 + i.val) = none := by
    rw [State.bare_of_engine (s.entered_engine i e'), State.bare_eq_none]; exact absent
  have free' : u.generalFull = false := by rw [State.generalFull_of_engine (s.entered_engine i e')]; exact free
  have created : t.bare (32 + i.val) = some { a.record u.engine.beaconCount with taken := false } := by
    rw [kept, State.updatePeer_bare_of_fallen trusted down, State.raise_bare u a (by omega),
      if_pos (show 32 + i.val = a.code from rfl), absent', raisedRecord, free', Bool.and_false]
    rfl
  obtain ⟨b, found⟩ := bare_some created
  have level : a.level = downLevel (s.start.population.get i).role := by
    show downLevel (u.start.population.get i).role = _
    rw [s.entered_start]
  have life : lifeAtCreation a.code = .holds := if_neg (show ¬(32 + i.val = 2 ∨ 32 + i.val = 4) by omega)
  exact ⟨_, found, level, rfl, rfl, life, rfl, rfl⟩

/-- In RUN a trusted peer is lost or muted (R45, R48, R70, R105). -/
theorem fallen_in_run {s : State} {i : Station} {e' : PeerEntry} (run : s.station = .run) (still : Settled s)
    (trusted : (s.peer i).state.trusted = true) (down : e'.state.down = true) :
    let t := s.finish (s.updatePeer i e')
    OnlyChanges [.line, .peers, .selector, .isolation, .engine, .envelope, .pins] s t
      ∧ t.peers = s.peers.set i e'
      ∧ t.selector.own = s.selector.own ∧ t.selector.served = t.resolved ∧ BandFollows s t
      ∧ (s.record (32 + i.val) = none → s.generalFull = false → DownCreated i e'.downCause s t)
      ∧ HandedOver s t := by
  let m := s.updatePeer i e'
  have ne : s.station ≠ .parking := by rw [run]; decide
  have onLine : s.station.onLine = true := by rw [run]; rfl
  have course : Course s m := .updatePeer s i e'
  obtain ⟨queue, probation⟩ := s.updatePeer_queue i e'
  have done : s.finish m = s.handOver m.refreshServed :=
    State.finish_of_course course rfl onLine ne (by rw [queue, probation]; exact still.2)
  have selector : m.selector = s.selector := (Works.updatePeer s i e').selector.trans (s.entered_selector i e')
  have whole : Course s m.refreshServed := course.trans (.refreshServed m)
  obtain ⟨peers, own, served, band⟩ := served_of_course course rfl onLine ne selector rfl
  show OnlyChanges _ s (s.finish m) ∧ _
  rw [done]
  refine ⟨?_, peers.trans (s.updatePeer_peers i e'), own, served, band,
    fun absent free => .of_updatePeer trusted down absent free ?_, whole.handedOver ne rfl rfl rfl rfl rfl rfl⟩
  · exact .trans ((whole.onlyChanges ne).mono (by decide)) ((OnlyChanges.handOver s _).mono (by decide))
  · have res : resolving m.station := resolving_of_onLine (course.station_eq ne ▸ onLine)
    rw [State.handOver_bare, State.refreshServed_bare res (by omega) (by omega) (by omega)]

end Sys2Proof.Machine
end

section
/-! The parts of an own expiry that leave every entry and the rejoin queue alone. -/

namespace Sys2Proof.Machine

/-- The entries, the rejoin queue and the probation record stay. -/
structure SamePeers (x y : State) : Prop where
  peers : y.peers = x.peers
  queue : y.isolation.queue = x.isolation.queue
  probation : y.isolation.probation = x.isolation.probation

theorem SamePeers.refl (x : State) : SamePeers x x := ⟨rfl, rfl, rfl⟩

theorem SamePeers.trans {x y z : State} (h : SamePeers x y) (h' : SamePeers y z) : SamePeers x z :=
  ⟨h'.peers.trans h.peers, h'.queue.trans h.queue, h'.probation.trans h.probation⟩

theorem SamePeers.peer {x y : State} (h : SamePeers x y) (i : Station) : y.peer i = x.peer i := by
  rw [State.peer, h.peers]; rfl

theorem Works.samePeers {x y : State} (h : Works x y) : SamePeers x y := by
  obtain ⟨queue, probation, -⟩ := h.isolation
  exact ⟨h.peers, queue, probation⟩

theorem SamePeers.setSelector (x : State) (v : Selector) : SamePeers x (x.setSelector v) := ⟨rfl, rfl, rfl⟩

theorem SamePeers.refreshServed (x : State) : SamePeers x x.refreshServed := by
  by_cases h : resolving x.station
  · exact (SamePeers.setSelector x _).trans (Works.refreshServed h).samePeers
  · rw [State.refreshServed_of_not_resolving h]; exact .refl x

theorem SamePeers.expiryRoles (later : List Later) (s : State) : SamePeers s (s.expiryRoles later) := by
  obtain ⟨e, g, counted, -⟩ := s.expiryCounted_eq later
  obtain ⟨a, -, -, works⟩ := expiryRoles_base later s
  have first : SamePeers s ((s.expiryCounted later).setStart a) := by rw [counted]; exact ⟨rfl, rfl, rfl⟩
  exact first.trans works.samePeers

theorem SamePeers.agePlaces (later : List Later) (x : State) : SamePeers x (x.agePlaces later) := by
  refine SamePeers.trans ?_ (Works.compareQuorum _).samePeers
  exact ⟨rfl, rfl, rfl⟩

theorem SamePeers.countRejoin (later : List Later) (x : State) : SamePeers x (x.countRejoin later) := by
  unfold State.countRejoin; simp only
  repeat' split
  all_goals exact ⟨rfl, rfl, rfl⟩

theorem SamePeers.retryOwed (x : State) : SamePeers x x.retryOwed := by
  obtain ⟨peers, -, queue, probation, -⟩ := OwedOnly.retryOwed x
  exact ⟨peers, queue, probation⟩

theorem SamePeers.setDisputed (x : State) (a b : Bool) : SamePeers x (x.setDisputed a b) := by
  unfold State.setDisputed; simp only
  refine SamePeers.trans ?_ (Works.conditionNow _ _ _ _).samePeers
  split
  · exact .setSelector x _
  · exact (SamePeers.setSelector x _).trans (.setSelector _ _)

/-- While neither check is disputed no source is charged (R66). -/
theorem SamePeers.evaluateChecks {later : List Later} {x : State} (speed : x.selector.speedDisputed = false)
    (voltage : x.selector.voltageDisputed = false) : SamePeers x (x.evaluateChecks later) := by
  unfold State.evaluateChecks
  simp only [speed, voltage, Bool.and_false, Bool.false_eq_true, if_false]
  exact ((SamePeers.setSelector x _).trans (.setDisputed _ _ _)).trans (.refreshServed _)

theorem SamePeers.countBrake (later : List Later) (x : State) : SamePeers x (x.countBrake later) := by
  obtain ⟨n, b, works⟩ := x.countBrake_works later
  exact (SamePeers.setSelector x _).trans works.samePeers

/-- The marks of the two checks stay as the served values are resolved again. -/
theorem State.refreshServed_disputed (x : State) :
    x.refreshServed.selector.speedDisputed = x.selector.speedDisputed
      ∧ x.refreshServed.selector.voltageDisputed = x.selector.voltageDisputed := by
  by_cases h : resolving x.station
  · rw [refreshServed_selector h, refreshedSelector]
    split
    · exact ⟨rfl, rfl⟩
    · rw [resolvedSelector, recordServed_selector]; exact ⟨rfl, rfl⟩
  · rw [refreshServed_of_not_resolving h]; exact ⟨rfl, rfl⟩

/-- Neither check is disputed where the evaluations of RUN and PARKING begin. -/
def Undisputed (x : State) : Prop := x.selector.speedDisputed = false ∧ x.selector.voltageDisputed = false

theorem Undisputed.refreshServed {x : State} (h : Undisputed x) : Undisputed x.refreshServed := by
  obtain ⟨speed, voltage⟩ := x.refreshServed_disputed
  exact ⟨speed.trans h.1, voltage.trans h.2⟩

theorem Undisputed.of_selector {x y : State} (h : Undisputed x) (sel : y.selector = x.selector) : Undisputed y := by
  rw [Undisputed, sel]; exact h

theorem SamePeers.selectorPeriod {later : List Later} {x : State} (h : x.station.riding = true → Undisputed x) :
    SamePeers x (x.selectorPeriod later) := by
  let u := (x.mapOwn countFresh).refreshServed
  have refreshed : SamePeers x u := (SamePeers.setSelector x _).trans (.refreshServed _)
  unfold State.selectorPeriod
  simp only
  split
  next riding =>
    have ride : x.station.riding = true := by rw [← riding, (Course.refreshServed _).riding, State.mapOwn_station]
    have clear : Undisputed (x.mapOwn countFresh) := h ride
    obtain ⟨speed, voltage⟩ := clear.refreshServed
    exact ((refreshed.trans (.evaluateChecks speed voltage)).trans (.countBrake later _)).trans
      (Works.presentSelector _).samePeers
  next => exact refreshed

theorem SamePeers.enterRun (x : State) : SamePeers x x.enterRun := by
  have checked : SamePeers x x.checkedRun := by
    refine SamePeers.trans ?_ (Works.checkedRun x).samePeers
    exact ⟨rfl, rfl, rfl⟩
  refine checked.trans ?_
  rw [x.enterRun_eq]
  unfold State.startAtEntry
  repeat' split
  all_goals exact ⟨rfl, rfl, rfl⟩

theorem SamePeers.countDiscovery (later : List Later) (x : State) : SamePeers x (x.countDiscovery later) := by
  have counted : ∀ n, SamePeers x (x.setStart { x.start with discovery := n }) := fun _ => ⟨rfl, rfl, rfl⟩
  unfold State.countDiscovery
  split
  · simp only
    split
    · exact (counted _).trans (.enterRun _)
    · exact counted _
  · exact .refl x

/-- The own expiry after the peer view's period, up to its end (log 7). -/
def State.expiryRest (later : List Later) (x : State) : State :=
  ((x.presentPeers.refreshServed.selectorPeriod later).presentLine.periodicBeacon).countDiscovery later

theorem SamePeers.expiryRest {later : List Later} {x : State} (h : x.station.riding = true → Undisputed x) :
    SamePeers x (x.expiryRest later) := by
  have presented := Works.presentPeers x
  have refreshed : SamePeers x x.presentPeers.refreshServed := presented.samePeers.trans (.refreshServed _)
  have riding : x.presentPeers.refreshServed.station.riding = x.station.riding :=
    (Course.refreshServed _).riding.trans presented.riding
  have clear : x.presentPeers.refreshServed.station.riding = true → Undisputed x.presentPeers.refreshServed :=
    fun ride => ((h (riding ▸ ride)).of_selector presented.selector).refreshServed
  have given : ∀ u : State, SamePeers u u.periodicBeacon := fun _ => ⟨rfl, rfl, rfl⟩
  exact (((refreshed.trans (.selectorPeriod clear)).trans (Works.presentLine _).samePeers).trans (given _)).trans
    (.countDiscovery later _)

/-! ### The end of the handling -/

theorem SamePeers.checkAfterPark (s0 t : State) : SamePeers t (s0.checkAfterPark t) := by
  unfold State.checkAfterPark; split
  · have marked : SamePeers t t.markPopulation := ⟨rfl, rfl, rfl⟩
    exact (marked.trans (Works.populationCheck t).samePeers).trans (Works.compareQuorum _).samePeers
  · exact .refl t

theorem SamePeers.handOver (s0 t : State) : SamePeers t (s0.handOver t) :=
  ⟨s0.handOver_peers t, s0.handOver_queue t, s0.handOver_probation t⟩

/-- A handling that leaves no peer to wait ends without a change of an entry. -/
theorem SamePeers.finish {t : State} (h : t.isolation.queue = [] ∨ t.isolation.probation.isSome = true) (s0 : State) :
    SamePeers t (s0.finish t) := by
  have refreshed := SamePeers.refreshServed t
  have still : t.refreshServed.startProbation = t.refreshServed :=
    State.startProbation_of_running (by rw [refreshed.queue, refreshed.probation]; exact h)
  rw [State.finish, still]
  exact (refreshed.trans (.checkAfterPark s0 _)).trans (.handOver s0 _)

/-- At the end of a handling an entry changes only by the start of its probation, for which it has waited. -/
theorem State.finish_peer {t : State} {i : Station} (h : i ∉ t.isolation.queue) (s0 : State) :
    (s0.finish t).peer i = t.peer i := by
  have refreshed := SamePeers.refreshServed t
  have started : t.refreshServed.startProbation.peer i = t.refreshServed.peer i := by
    obtain same | ⟨j, rest, -, queue, started⟩ := t.refreshServed.startProbation_cases
    · rw [same]
    · have ne : i ≠ j := by
        rintro rfl
        exact h (by rw [← refreshed.queue, queue]; exact List.mem_cons_self ..)
      rw [started, updatePeer_peer, if_neg ne]; rfl
  rw [finish, handOver_peer, (SamePeers.checkAfterPark s0 _).peer, started, refreshed.peer]

end Sys2Proof.Machine
end

section
/-! One own period of one entry, and of the others meanwhile. -/

namespace Sys2Proof.Machine

/-! ### The period of one entry touches no other and not the selector -/

theorem State.updatePeer_selector (x : State) (j : Station) (e' : PeerEntry) :
    (x.updatePeer j e').selector = x.selector := (Works.updatePeer x j e').selector.trans (x.entered_selector j e')

/-- From `x` to `y` nothing changed but the entry of peer `j` and what follows from it. -/
structure Only (j : Station) (x y : State) : Prop where
  course : Course x y
  others : ∀ i, i ≠ j → y.peer i = x.peer i
  selector : y.selector = x.selector

theorem Only.refl (j : Station) (x : State) : Only j x x := ⟨.refl x, fun _ _ => rfl, rfl⟩

theorem Only.trans {j : Station} {x y z : State} (h : Only j x y) (h' : Only j y z) : Only j x z :=
  ⟨h.course.trans h'.course, fun i hi => (h'.others i hi).trans (h.others i hi), h'.selector.trans h.selector⟩

theorem Only.updatePeer (x : State) (j : Station) (e' : PeerEntry) : Only j x (x.updatePeer j e') :=
  ⟨.updatePeer x j e', fun i hi => by rw [State.updatePeer_peer, if_neg hi], x.updatePeer_selector j e'⟩

theorem Only.setPeer (x : State) (j : Station) (e' : PeerEntry) : Only j x (x.setPeer j e') :=
  ⟨.setPeer x j e', fun i hi => by rw [State.setPeer_peer, if_neg hi], rfl⟩

theorem Only.reportScore (x : State) (j : Station) : Only j x (x.reportScore j) := by
  unfold State.reportScore; simp only; split
  · exact .updatePeer x j _
  · exact .refl j x

theorem Only.reportSelfContained (x : State) (j : Station) : Only j x (x.reportSelfContained j) := by
  unfold State.reportSelfContained; simp only; split
  · exact .updatePeer x j _
  · exact .refl j x

theorem Only.updateScored (x : State) (j : Station) (e' : PeerEntry) : Only j x (x.updateScored j e') :=
  (Only.updatePeer x j _).trans (.reportScore _ j)

theorem Only.failProbation (x : State) (j : Station) : Only j x (x.failProbation j) :=
  (Only.updatePeer x j _).trans ⟨.endProbation _ j, fun _ _ => rfl, rfl⟩

theorem Only.agePeer (x : State) (j : Station) : Only j x (x.agePeer j) := by
  unfold State.agePeer; simp only; split
  · exact .updateScored x j _
  · exact .updateScored x j _
  · split
    · exact (Only.updatePeer x j _).trans (.failProbation _ j)
    · exact .updatePeer x j _
  · exact .refl j x

theorem Only.selfPeriod (later : List Later) (x : State) (j : Station) : Only j x (x.selfPeriod later j) := by
  have counted : Only j x (x.countSelf j) := by
    unfold State.countSelf; simp only; split
    · exact .setPeer x j _
    · exact .refl j x
  unfold State.selfPeriod; simp only; split
  · exact counted
  · exact counted.trans (.reportSelfContained _ j)

theorem Only.peerPeriod (later : List Later) (x : State) (j : Station) : Only j x (x.peerPeriod later j) := by
  refine (Only.agePeer x j).trans ?_
  unfold State.peerPeriod; simp only; split
  · split
    · exact .refl j _
    · exact .updatePeer _ j _
  · exact .selfPeriod later _ j

/-! ### The fold over the entries -/

/-- From `x` to `y` the periods of other entries than that of peer `i` have gone on. -/
structure PassesBy (i : Station) (x y : State) : Prop where
  course : Course x y
  peer : y.peer i = x.peer i
  selector : y.selector = x.selector

theorem PassesBy.refl (i : Station) (x : State) : PassesBy i x x := ⟨.refl x, rfl, rfl⟩

theorem PassesBy.trans {i : Station} {x y z : State} (h : PassesBy i x y) (h' : PassesBy i y z) : PassesBy i x z :=
  ⟨h.course.trans h'.course, h'.peer.trans h.peer, h'.selector.trans h.selector⟩

theorem PassesBy.foldl (later : List Later) {i : Station} {l : List Station} (h : i ∉ l) :
    ∀ x : State, PassesBy i x (l.foldl (State.peerPeriod later) x) := by
  induction l with
  | nil => exact .refl i
  | cons j l ih =>
    intro x
    obtain ⟨ne, rest⟩ := not_or.1 (List.mem_cons.not.1 h)
    obtain ⟨course, others, selector⟩ := Only.peerPeriod later x j
    exact PassesBy.trans ⟨course, others i ne, selector⟩ (ih rest _)

/-- The stations before and after `i` in the order of the fold. -/
theorem stations_split (i : Station) : ∃ a b, stations = a ++ i :: b ∧ i ∉ a ∧ i ∉ b := by
  have mem : i ∈ stations := by revert i; decide
  have nodup : stations.Nodup := by decide
  obtain ⟨a, b, split⟩ := List.append_of_mem mem
  rw [split, List.nodup_middle, List.nodup_cons, List.mem_append] at nodup
  exact ⟨a, b, split, fun h => nodup.1 (.inl h), fun h => nodup.1 (.inr h)⟩

/-- In RUN and PARKING the entry of peer `i` has its period between those of the others. -/
theorem State.peersPeriod_at (later : List Later) {x : State} (i : Station) (riding : x.station.riding = true) :
    ∃ y, PassesBy i x y ∧ PassesBy i (y.peerPeriod later i) (x.peersPeriod later) := by
  obtain ⟨a, b, split, before, after⟩ := stations_split i
  refine ⟨a.foldl (State.peerPeriod later) x, .foldl later before x, ?_⟩
  rw [peersPeriod, if_pos riding, split, List.foldl_append, List.foldl_cons]
  exact .foldl later after _

/-! ### The period of a trusted entry -/

theorem agedBy_eq (e : PeerEntry) : e.aged.thresholds = agedBy e := by
  rw [thresholds_eq, agedBy]
  unfold PeerEntry.aged
  rfl

theorem agedBy_trusted {e : PeerEntry} (h : e.state.trusted = true) : (agedBy e).state.trusted = true := by
  rw [← agedBy_eq, thresholds_eq]
  exact byThresholds_trusted (by rw [e.aged_state]; exact h)

section
variable {x : State} {i : Station} (trusted : (x.peer i).state.trusted = true)
include trusted

/-- A trusted entry ages before its score is reported (R44, R47). -/
theorem State.agePeer_of_trusted : x.agePeer i = (x.setPeer i (agedBy (x.peer i))).reportScore i := by
  have kept : Alike (x.peer i) (agedBy (x.peer i)) := by
    rw [← agedBy_eq]
    exact ((Kept.aged _).trans (.thresholds (by rw [PeerEntry.aged_state]; exact trusted))).1
  have scored : x.updateScored i (x.peer i).aged = (x.setPeer i (agedBy (x.peer i))).reportScore i := by
    rw [updateScored, agedBy_eq, updatePeer_of_alike kept]
  rw [← scored]
  rcases trusted_cases trusted with h | h <;> simp only [agePeer, h]

/-- Below a score of 192 the ageing is all (R44). -/
theorem State.agePeer_of_low (low : (agedBy (x.peer i)).score < 192) :
    x.agePeer i = x.setPeer i (agedBy (x.peer i)) := by
  rw [agePeer_of_trusted trusted]
  refine if_neg fun h => ?_
  have high := h.2.2
  rw [setPeer_peer, if_pos rfl] at high
  exact absurd high (by rw [Config.muteAt]; omega)

theorem State.lossDue_aged (riding : x.station.riding = true) :
    (x.setPeer i (agedBy (x.peer i))).lossDue i = decide (x.config.lossLimit ≤ (agedBy (x.peer i)).age) := by
  rw [lossDue, setPeer_peer, if_pos rfl, agedBy_trusted trusted]
  show (x.station.riding && true && _) = _
  rw [riding]; rfl

variable (riding : x.station.riding = true) (low : (agedBy (x.peer i)).score < 192)
include riding low

/-- At the loss limit the peer is LOST (R45). -/
theorem State.peerPeriod_lost {later : List Later} (due : x.config.lossLimit ≤ (agedBy (x.peer i)).age)
    (now : .peerLoss i ∉ later) :
    (x.peerPeriod later i).peer i = { agedBy (x.peer i) with state := .lost, selfCount := 0, downCause := .lost } := by
  have left : later.contains (Later.peerLoss i) = false := by simpa using now
  rw [peerPeriod, agePeer_of_low trusted low]
  simp only [lossDue_aged trusted riding, decide_eq_true due, left, if_true, Bool.false_eq_true, if_false]
  rw [losePeer, updatePeer_self, setPeer_peer, if_pos rfl]

/-- A loss that is left to PEER_LOSS leaves the aged entry (R45). -/
theorem State.peerPeriod_left {later : List Later} (due : x.config.lossLimit ≤ (agedBy (x.peer i)).age)
    (waits : .peerLoss i ∈ later) : (x.peerPeriod later i).peer i = agedBy (x.peer i) := by
  have left : later.contains (Later.peerLoss i) = true := by simpa using waits
  rw [peerPeriod, agePeer_of_low trusted low]
  simp only [lossDue_aged trusted riding, decide_eq_true due, left, if_true]
  rw [setPeer_peer, if_pos rfl]

/-- The entry with its self-contained count, before the report (R48). -/
theorem State.peerPeriod_counted {later : List Later} (young : (agedBy (x.peer i)).age < x.config.lossLimit) :
    x.peerPeriod later i =
      let z := x.setPeer i { agedBy (x.peer i) with selfCount := selfCountAfter (x.peer i) }
      if later.contains (.selfContained i) then z else z.reportSelfContained i := by
  let e := agedBy (x.peer i)
  have counted : (x.setPeer i e).countSelf i = x.setPeer i { e with selfCount := selfCountAfter (x.peer i) } := by
    have same : (if e.ownLevel = 7 then addSat 255 e.selfCount 1 else 0) = selfCountAfter (x.peer i) := by
      have fields : e.ownLevel = (x.peer i).ownLevel ∧ e.selfCount = (x.peer i).selfCount := by
        show (agedBy (x.peer i)).ownLevel = _ ∧ (agedBy (x.peer i)).selfCount = _
        unfold agedBy byThresholds; simp only; split <;> exact ⟨rfl, rfl⟩
      rw [fields.1, fields.2]; rfl
    have entry : (x.setPeer i e).peer i = e := by rw [setPeer_peer, if_pos rfl]
    rw [countSelf, entry]
    simp only [agedBy_trusted trusted, e, if_true]
    rw [setPeer_setPeer, same]
  rw [peerPeriod, agePeer_of_low trusted low]
  simp only [lossDue_aged trusted riding, decide_eq_false (not_le.2 young), Bool.false_eq_true, if_false]
  rw [selfPeriod, counted]

end

end Sys2Proof.Machine
end

section
/-! An own expiry and the entry of one trusted peer. -/

namespace Sys2Proof.Machine

/-- The own expiry up to the peer view's period (log 7). -/
def State.expiryReady (later : List Later) (s : State) : State :=
  ((((s.expiryRoles later).agePlaces later).countHolds).countRejoin later).retryOwed

theorem State.ownExpiry_parts {s : State} (later : List Later) (onLine : s.station.onLine = true) :
    s.ownExpiry later = s.finish (((s.expiryReady later).peersPeriod later).expiryRest later) := if_pos onLine

theorem Course.expiryReady (later : List Later) (s : State) : Course (s.expiryRoles later) (s.expiryReady later) :=
  (((Course.agePlaces later _).trans (.countHolds _)).trans (.countRejoin later _)).trans (.retryOwed _)

theorem State.countRejoin_selector (later : List Later) (x : State) : (x.countRejoin later).selector = x.selector := by
  unfold countRejoin; simp only; repeat' split
  all_goals rfl

theorem State.countHolds_selector (x : State) : x.countHolds.selector = x.selector := by
  unfold countHolds; split <;> rfl

theorem State.agePlaces_selector (later : List Later) (x : State) : (x.agePlaces later).selector = x.selector :=
  (Works.compareQuorum _).selector

/-- The mute hold of another entry than a MUTED one is none (R138). -/
theorem State.countHolds_peer {x : State} {i : Station} (h : (x.peer i).state ≠ .muted) :
    x.countHolds.peer i = x.peer i := by
  unfold countHolds; split
  · rw [peer, setPeers_peers, Six.get_map]; exact if_neg h
  · rfl

/-- Nothing before the peer view's period touches a trusted entry, the queue or the selector. -/
structure Readied (i : Station) (s x : State) : Prop where
  peer : x.peer i = s.peer i
  queue : x.isolation.queue = s.isolation.queue
  config : x.config = s.config
  selector : x.selector = s.selector
  riding : x.station.riding = s.station.riding
  run : s.station = .run → x.station = .run

theorem Readied.expiryRoles (later : List Later) (i : Station) (s : State) : Readied i s (s.expiryRoles later) := by
  obtain ⟨e, g, counted, -⟩ := s.expiryCounted_eq later
  obtain ⟨a, station, -, works⟩ := expiryRoles_base later s
  have same := SamePeers.expiryRoles later s
  refine ⟨same.peer i, same.queue, ?_, expiryRoles_selector later s, ?_, fun run => ?_⟩
  · rw [works.config, counted]; rfl
  · rw [works.riding, ← station]; rfl
  · have start : ((s.expiryCounted later).setStart a).station = .run := station.trans run
    rw [works.station_eq (by rw [start]; decide), start]

theorem Readied.expiryReady {later : List Later} {i : Station} {s : State} (h : (s.peer i).state.trusted = true) :
    Readied i s (s.expiryReady later) := by
  let a := (s.expiryRoles later).agePlaces later
  let c := a.countHolds
  have course := Course.expiryReady later s
  have roles := Readied.expiryRoles later i s
  have aged : SamePeers (s.expiryRoles later) a := .agePlaces later _
  have entry : a.peer i = s.peer i := (aged.peer i).trans roles.peer
  have held : c.peer i = a.peer i :=
    State.countHolds_peer (by rw [entry]; intro hm; rw [hm] at h; cases h)
  have queue : c.isolation.queue = a.isolation.queue := by
    show a.countHolds.isolation.queue = _; unfold State.countHolds; split <;> rfl
  have rest : SamePeers c (s.expiryReady later) := (SamePeers.countRejoin later c).trans (.retryOwed _)
  have selector : (s.expiryReady later).selector = (s.expiryRoles later).selector :=
    ((OwedOnly.retryOwed _).selector.trans (State.countRejoin_selector later c)).trans
      ((State.countHolds_selector a).trans (State.agePlaces_selector later _))
  exact ⟨((rest.peer i).trans held).trans entry, (rest.queue.trans queue).trans (aged.queue.trans roles.queue),
    course.config.trans roles.config, selector.trans roles.selector, course.riding.trans roles.riding, fun run => by
      have started := roles.run run
      rw [course.station_eq (by rw [started]; decide), started]⟩

theorem onLine_of_riding {x : StationState} (h : x.riding = true) : x.onLine = true := by
  revert h; cases x <;> simp [StationState.riding, StationState.onLine]

/-- In RUN and PARKING the entry of a trusted peer is what its own period leaves, while no check is disputed. -/
theorem ownExpiry_entry {later : List Later} {i : Station} {s : State} (rejoin : RejoinLaw s)
    (riding : s.station.riding = true) (trusted : (s.peer i).state.trusted = true) (clear : Undisputed s) :
    ∃ y : State, y.peer i = s.peer i ∧ y.config = s.config ∧ y.station.riding = true ∧ (s.station = .run → y.station = .run)
      ∧ (s.ownExpiry later).peer i = (y.peerPeriod later i).peer i := by
  let x := s.expiryReady later
  have ready : Readied i s x := .expiryReady trusted
  obtain ⟨y, before, after⟩ := State.peersPeriod_at later (x := x) i (ready.riding.trans riding)
  have turn := Only.peerPeriod later y i
  have undisputed : Undisputed (x.peersPeriod later) :=
    clear.of_selector ((after.selector.trans turn.selector).trans (before.selector.trans ready.selector))
  have rest : SamePeers (x.peersPeriod later) ((x.peersPeriod later).expiryRest later) := .expiryRest fun _ => undisputed
  have out : i ∉ ((x.peersPeriod later).expiryRest later).isolation.queue := by
    rw [rest.queue]
    intro hi
    have waits := (Course.peersPeriod later x).queue i hi
    rw [ready.queue] at waits
    have down := rejoin.2.1 i waits
    rw [down_of_trusted trusted] at down; cases down
  refine ⟨y, before.peer.trans ready.peer, before.course.config.trans ready.config,
    (before.course.riding.trans ready.riding).trans riding, fun run => ?_, ?_⟩
  · have started := ready.run run
    rw [before.course.station_eq (by rw [started]; decide), started]
  · rw [State.ownExpiry_parts later (onLine_of_riding riding), State.finish_peer out, rest.peer, after.peer]

/-- In JOIN no entry changes at an own expiry. -/
theorem ownExpiry_peers_of_join {later : List Later} {s : State} (join : s.station = .join) (still : Settled s) :
    (s.ownExpiry later).peers = s.peers := by
  have onLine : s.station.onLine = true := by rw [join]; rfl
  have stays : ∀ x, Course (s.expiryRoles later) x → x.station.riding = false := fun x h => by
    rw [h.riding, (Readied.expiryRoles later 0 s).riding, join]; rfl
  have aged : SamePeers s ((s.expiryRoles later).agePlaces later) := (SamePeers.expiryRoles later s).trans (.agePlaces later _)
  have holds : ((s.expiryRoles later).agePlaces later).countHolds = (s.expiryRoles later).agePlaces later :=
    if_neg (by rw [stays _ (.agePlaces later _)]; decide)
  have ready : SamePeers s (s.expiryReady later) := by
    rw [State.expiryReady, holds]
    exact (aged.trans (.countRejoin later _)).trans (.retryOwed _)
  have riding := stays _ (Course.expiryReady later s)
  have period : (s.expiryReady later).peersPeriod later = s.expiryReady later := if_neg (by rw [riding]; decide)
  have whole : SamePeers s ((s.expiryReady later).expiryRest later) :=
    ready.trans (.expiryRest fun h => absurd h (by rw [riding]; decide))
  rw [State.ownExpiry_parts later onLine, period]
  exact ((SamePeers.finish (by rw [whole.queue, whole.probation]; exact still.2) s).peers).trans whole.peers

/-! ### PEER_LOSS -/

theorem State.lossDue_iff {s : State} {i : Station} (riding : s.station.riding = true)
    (trusted : (s.peer i).state.trusted = true) : s.lossDue i = decide (s.config.lossLimit ≤ (s.peer i).age) := by
  rw [lossDue, riding, trusted]; rfl

/-- Settles O34: PEER_LOSS, the own expiry entry by entry, and JOIN. -/
theorem peerLossRaisesPeerDown : Obligations.PeerLossRaisesPeerDown := by
  intro i later s still
  refine ⟨fun run trusted due => ?_, fun st rejoin trusted low speed voltage => ?_, fun join =>
    ⟨_, rfl, ownExpiry_peers_of_join join still⟩⟩
  · have riding : s.station.riding = true := by rw [run]; rfl
    have lost : exec (.peerLoss i) s = .next (s.finish (s.losePeer i)) :=
      congrArg Host.Outcome.next (if_pos (by rw [State.lossDue_iff riding trusted]; exact decide_eq_true due))
    obtain ⟨changes, peers, own, served, band, record, handed⟩ :=
      fallen_in_run (e' := { s.peer i with state := .lost, selfCount := 0, downCause := .lost }) run still trusted rfl
    refine ⟨_, lost, changes, peers, own, served, band, fun absent free => ?_, handed⟩
    obtain ⟨r, found, level, fm, fr, life, unread, param⟩ := record absent free
    exact ⟨r, found, level, fm, fr, life, unread, param⟩
  · have riding : s.station.riding = true := by rcases st with h | h <;> rw [h] <;> rfl
    obtain ⟨y, entry, config, rides, -, result⟩ :=
      ownExpiry_entry (later := later) rejoin riding trusted ⟨speed, voltage⟩
    rw [← entry] at trusted low
    refine ⟨_, rfl, fun due now => ?_, fun due waits => ?_, fun young few => ?_⟩
    · rw [← entry, ← config] at due
      rw [result, State.peerPeriod_lost trusted rides low due now, entry]
    · rw [← entry, ← config] at due
      rw [result, State.peerPeriod_left trusted rides low due waits, entry]
    · rw [← entry] at young few
      rw [← config] at young
      rw [result, State.peerPeriod_counted trusted rides low young]
      let z := y.setPeer i { agedBy (y.peer i) with selfCount := selfCountAfter (y.peer i) }
      have counted : z.peer i = { agedBy (y.peer i) with selfCount := selfCountAfter (y.peer i) } := by
        rw [State.setPeer_peer, if_pos rfl]
      have unreported : z.reportSelfContained i = z := if_neg fun h => by
        have high := h.2.2
        rw [counted] at high
        exact absurd high (not_le.2 few)
      simp only
      rw [unreported, ite_self, counted, entry]

end Sys2Proof.Machine
end

section
/-! SELF_CONTAINED_COUNT, and the own expiry that mutes a peer. -/

namespace Sys2Proof.Machine

theorem agedBy_number (e : PeerEntry) : (agedBy e).lastSeq = e.lastSeq ∧ (agedBy e).flags = e.flags := by
  unfold agedBy byThresholds; simp only; split <;> exact ⟨rfl, rfl⟩

/-- A mute leaves of an entry its last sequence and its flags only (R137), which ageing keeps. -/
theorem mutedFrom_agedBy (e : PeerEntry) (reason : MuteReason) (hold : Nat) :
    mutedFrom (agedBy e) reason hold = mutedFrom e reason hold := by
  obtain ⟨lastSeq, flags⟩ := agedBy_number e
  rw [mutedFrom, mutedFrom, lastSeq, flags]

theorem State.mute_peer (x : State) (i : Station) (reason : MuteReason) :
    (x.mute i reason).peer i = mutedFrom (x.peer i) reason x.config.muteHold := x.updatePeer_self i _

/-- The self-contained count of an entry that is not trusted is left alone (R48). -/
theorem State.selfPeriod_of_not_trusted {x : State} {i : Station} (h : (x.peer i).state.trusted = false)
    (later : List Later) : x.selfPeriod later i = x := by
  have uncounted : x.countSelf i = x := if_neg (by rw [h]; decide)
  have unreported : x.reportSelfContained i = x := if_neg fun c => by rw [h] at c; cases c.2.1
  rw [selfPeriod, uncounted, unreported, ite_self]

section
variable {x : State} {i : Station} (run : x.station = .run) (trusted : (x.peer i).state.trusted = true)
include run trusted

/-- An own period that ages a score to 192 mutes the peer before its loss and its self-contained count (R44, R47). -/
theorem State.peerPeriod_scored (later : List Later) (high : 192 ≤ (agedBy (x.peer i)).score) :
    (x.peerPeriod later i).peer i = mutedFrom (x.peer i) .score x.config.muteHold := by
  let y := x.setPeer i (agedBy (x.peer i))
  have entry : y.peer i = agedBy (x.peer i) := by rw [setPeer_peer, if_pos rfl]
  have aged : x.agePeer i = y.mute i .score := by
    rw [agePeer_of_trusted trusted]
    exact if_pos ⟨run, by rw [entry]; exact agedBy_trusted trusted, by rw [entry]; exact high⟩
  have left : (y.mute i .score).peer i = mutedFrom (x.peer i) .score x.config.muteHold := by
    rw [mute_peer, entry, mutedFrom_agedBy]; rfl
  have out : ((y.mute i .score).peer i).state.trusted = false := by rw [left]; rfl
  have undue : (y.mute i .score).lossDue i = false := by rw [lossDue, out, Bool.and_false, Bool.false_and]
  rw [peerPeriod, aged]
  simp only [undue, Bool.false_eq_true, if_false]
  rw [selfPeriod_of_not_trusted out, left]

/-- An own period that counts 16 self-contained periods mutes a peer that is not due to be lost (R48). -/
theorem State.peerPeriod_selfContained {later : List Later} (low : (agedBy (x.peer i)).score < 192)
    (young : (agedBy (x.peer i)).age < x.config.lossLimit) (many : 16 ≤ selfCountAfter (x.peer i))
    (now : .selfContained i ∉ later) :
    (x.peerPeriod later i).peer i = mutedFrom (x.peer i) .selfContained x.config.muteHold := by
  have reported : later.contains (Later.selfContained i) = false := by simpa using now
  let e := { agedBy (x.peer i) with selfCount := selfCountAfter (x.peer i) }
  have entry : (x.setPeer i e).peer i = e := by rw [setPeer_peer, if_pos rfl]
  have muted : (x.setPeer i e).reportSelfContained i = (x.setPeer i e).mute i .selfContained :=
    if_pos ⟨run, by rw [entry]; exact agedBy_trusted trusted, by rw [entry]; exact many⟩
  rw [peerPeriod_counted trusted (by rw [run]; rfl) low young]
  simp only [reported, Bool.false_eq_true, if_false]
  rw [muted, mute_peer, entry]
  exact mutedFrom_agedBy (x.peer i) .selfContained x.config.muteHold

end

/-- Settles O35: SELF_CONTAINED_COUNT by its two conditions, then the period of the one entry in the own expiry. -/
theorem selfContainedPeerIsMuted : Obligations.SelfContainedPeerIsMuted := by
  intro i later s run still trusted
  have riding : s.station.riding = true := by rw [run]; rfl
  refine ⟨fun lost => ?_, fun young many => ?_, fun rejoin speed voltage => ?_⟩
  · have waits : s.selfContainedDue i = false := by
      rw [State.selfContainedDue, State.lossDue_iff riding trusted, decide_eq_true lost]; rfl
    exact congrArg Host.Outcome.next (if_neg (by rw [waits]; decide))
  · have due : s.selfContainedDue i = true := by
      rw [State.selfContainedDue, State.lossDue_iff riding trusted, decide_eq_false (not_le.2 young)]
      exact decide_eq_true many
    have muted : s.reportSelfContained i = s.mute i .selfContained := if_pos ⟨run, trusted, many⟩
    have mutes : exec (.selfContainedCount i) s = .next (s.finish (s.mute i .selfContained)) :=
      congrArg Host.Outcome.next ((if_pos due).trans (congrArg s.finish muted))
    obtain ⟨changes, peers, own, served, band, record, handed⟩ :=
      fallen_in_run (e' := (s.peer i).muted .selfContained s.config.muteHold) run still trusted rfl
    refine ⟨_, mutes, changes, peers, own, served, band, fun absent free => ?_, handed⟩
    obtain ⟨r, found, level, -, -, life, -, param⟩ := record absent free
    exact ⟨r, found, level, life, param⟩
  · obtain ⟨y, entry, config, -, runs, result⟩ :=
      ownExpiry_entry (later := later) rejoin riding trusted ⟨speed, voltage⟩
    rw [← entry, ← config]
    rw [← entry] at trusted
    refine ⟨_, rfl, fun high => ?_, fun low young many now => ?_⟩
    · exact result.trans (State.peerPeriod_scored (runs run) trusted later high)
    · exact result.trans (State.peerPeriod_selfContained (runs run) trusted low young many now)

end Sys2Proof.Machine
end

section
/-! A good frame that leaves every outcome as it was but the pins, and one that fails a probation. -/

namespace Sys2Proof.Machine

/-! ### The frame itself -/

theorem Works.goodFrame (s : State) : Works (s.setLine s.fineLine) s.goodFrame := by
  rcases s.goodFrame_eq with h | ⟨-, h⟩ <;> rw [h]
  · exact .refl _
  · exact .conditionGone _ 50

theorem OnlyChanges.goodFrame (s : State) : OnlyChanges [.line, .engine] s s.goodFrame := by
  rcases s.goodFrame_eq with h | ⟨-, h⟩ <;> rw [h]
  · exact (OnlyChanges.setLine s _).mono (by decide)
  · exact ⟨rfl, fun b hb => by revert hb; cases b <;> simp [SameBlock] <;> rfl⟩

theorem State.goodFrame_lineErrors (s : State) : s.goodFrame.line.lineErrors = s.line.lineErrors - 1 :=
  (Works.goodFrame s).course.lineCounters.1

theorem Settled.goodFrame {s : State} (still : Settled s) : Settled s.goodFrame :=
  (Works.goodFrame s).settled (settled_setLine still _)

theorem State.goodFrame_peer (s : State) (i : Station) : s.goodFrame.peer i = s.peer i := by
  rw [peer, s.goodFrame_peers]; rfl

theorem execAlert {a : Alert} {s : State} (onLine : s.station.onLine = true) (wf : a.wf = true)
    (other : a.sender ≠ s.own) : exec (.alertReceived a) s = .next (s.finish (s.goodFrame.takeAlert a)) := by
  have heard : s.hear true a.sender (fun t => t.takeAlert a) = s.finish (s.goodFrame.takeAlert a) :=
    State.hear_of_good onLine other _
  exact congrArg Host.Outcome.next ((congrArg (s.hear · a.sender _) wf).trans heard)

/-! ### The quiet end -/

/-- A handling that finds nothing to do at its end but to drive the pins. -/
structure Quiet (s m : State) : Prop where
  still : Settled m
  station : m.station = s.station
  straps : m.start.straps = s.start.straps
  cl : m.engine.cl = s.engine.cl
  contactor : m.engine.contactor = s.engine.contactor
  releaseCount : m.engine.releaseCount = s.engine.releaseCount
  drive : m.driveCondition = s.driveCondition
  inputs : m.envelopeInputs = s.envelopeInputs
  isolation : m.isolation = s.isolation
  envelope : m.envelope = s.envelope

theorem Quiet.goodFrame {s : State} (still : Settled s) : Quiet s s.goodFrame := by
  have settled := still.goodFrame
  rcases s.goodFrame_eq with h | ⟨-, h⟩
  · rw [h] at settled ⊢
    exact ⟨settled, rfl, rfl, rfl, rfl, rfl, rfl, rfl, rfl, rfl⟩
  · rw [h] at settled ⊢
    exact ⟨settled, rfl, rfl, rfl, rfl, rfl, rfl, State.conditionGone_inputs (s.setLine s.fineLine) 50, rfl, rfl⟩

/-- The entry of a peer that is not trusted and does not come to be. -/
theorem Quiet.setPeer {s m : State} (h : Quiet s m) {i : Station} {e : PeerEntry}
    (old : (m.peer i).state.trusted = false) (new : e.state.trusted = false) : Quiet s (m.setPeer i e) where
  still :=
    ⟨(resolved_setPeer_of_alike (new.trans old.symm) fun c => absurd (new.symm.trans c) nofun).trans h.still.1, h.still.2⟩
  station := h.station
  straps := h.straps
  cl := h.cl
  contactor := h.contactor
  releaseCount := h.releaseCount
  drive := (State.driveCondition_setPeer_of_untrusted old new).trans h.drive
  inputs := h.inputs
  isolation := h.isolation
  envelope := h.envelope

theorem Quiet.finish {s m : State} (h : Quiet s m) : s.finish m = m.drivePins := by
  rw [State.finish_of_settled h.still h.station, State.handOver_of_quiet h.cl h.drive h.station h.inputs]

theorem Quiet.handedOver {s m : State} (h : Quiet s m) : HandedOver s m.drivePins := by
  rw [← State.handOver_of_quiet h.cl h.drive h.station h.inputs]
  exact .handOver h.envelope (congrArg Isolation.suspended h.isolation) h.contactor h.releaseCount h.straps h.station

theorem OnlyChanges.drivePins (s : State) : OnlyChanges [.pins] s s.drivePins :=
  ⟨rfl, fun b hb => by revert hb; cases b <;> simp [SameBlock]⟩

theorem State.goodFrame_engine {s : State} (fine : s.line.degraded = false) : s.goodFrame.engine = s.engine := by
  rw [goodFrame_of_fine fine]; rfl

/-! ### An ALERT of a peer that is not trusted -/

section
variable {a : Alert} {s : State}

theorem State.takeAlert_of_lost (h : (s.peer a.sender).state = .lost) :
    s.takeAlert a = s.setPeer a.sender { s.peer a.sender with ownLevel := a.ownLevel } := by
  simp only [takeAlert, h]

theorem State.takeAlert_of_unheard (h : (s.peer a.sender).state = .absent ∨ (s.peer a.sender).state = .parked) :
    s.takeAlert a = s := by
  rcases h with h | h <;> simp only [takeAlert, h]

theorem State.takeAlert_of_probation (h : (s.peer a.sender).state = .probation) :
    let told := s.setPeer a.sender { s.peer a.sender with ownLevel := a.ownLevel }
    s.takeAlert a
      = if alertLevel a (s.peer a.sender).flags.isolated = 7 then told.failProbation a.sender else told := by
  simp only [takeAlert, h]

theorem alertGivesSeven_iff (e : PeerEntry) (a : Alert) : alertLevel a e.flags.isolated = 7 ↔ AlertGivesSeven e a := by
  rw [alertLevel, AlertGivesSeven]
  split
  · by_cases ceased : a.claim.code = 3
    · simp [claimLevel, ceased]
    · simp [claimLevel, ceased]
  · exact Iff.rfl

variable (still : Settled s)
include still

/-- The own level of a peer that is not trusted is stored and nothing else happens (R42). -/
theorem level_stored {i : Station} (untrusted : (s.peer i).state.trusted = false) (l : Level) :
    let t := s.finish (s.goodFrame.setPeer i { s.goodFrame.peer i with ownLevel := l })
    OnlyChanges [.line, .peers, .engine, .pins] s t
      ∧ t.line.lineErrors = s.line.lineErrors - 1
      ∧ t.isolation = s.isolation
      ∧ t.peers = s.peers.set i { s.peer i with ownLevel := l }
      ∧ (s.line.degraded = false → t.engine = s.engine)
      ∧ HandedOver s t := by
  have old : (s.goodFrame.peer i).state.trusted = false := by rw [s.goodFrame_peer]; exact untrusted
  have quiet := (Quiet.goodFrame still).setPeer (i := i) (e := { s.goodFrame.peer i with ownLevel := l }) old old
  simp only
  rw [quiet.finish]
  refine ⟨?_, s.goodFrame_lineErrors, quiet.isolation, ?_, fun fine => State.goodFrame_engine fine, quiet.handedOver⟩
  · exact (((OnlyChanges.goodFrame s).mono (by decide)).trans ((OnlyChanges.setPeer _ i _).mono (by decide))).trans
      ((OnlyChanges.drivePins _).mono (by decide))
  · show s.goodFrame.peers.set i _ = _
    rw [s.goodFrame_peers, s.goodFrame_peer]

/-- An ALERT of a peer that has not been heard, or that has parked, only counts as a good frame (R28, R42). -/
theorem frame_counted :
    let t := s.finish s.goodFrame
    OnlyChanges [.line, .engine, .pins] s t
      ∧ t.line.lineErrors = s.line.lineErrors - 1
      ∧ (s.line.degraded = false → t.engine = s.engine)
      ∧ HandedOver s t := by
  have quiet := Quiet.goodFrame still
  simp only
  rw [quiet.finish]
  exact ⟨((OnlyChanges.goodFrame s).mono (by decide)).trans ((OnlyChanges.drivePins _).mono (by decide)),
    s.goodFrame_lineErrors, fun fine => State.goodFrame_engine fine, quiet.handedOver⟩

end

/-! ### A probation that fails -/

/-- The one peer that waits or is on probation fails it, and nothing begins at the end of the handling (R146, R149). -/
theorem Settled.failProbation {w : State} {i : Station} (still : Settled w) (queue : w.isolation.queue = [i])
    (onTrial : (w.peer i).state = .probation) :
    let m := w.failProbation i
    Settled m ∧ m.selector = w.selector ∧ m.isolation.probation = none ∧ m.isolation.queue = []
      ∧ m.peers = w.peers.set i (mutedFrom (w.peer i) ((w.peer i).muteReason.getD .score) w.config.muteHold) := by
  let e' := mutedFrom (w.peer i) ((w.peer i).muteReason.getD .score) w.config.muteHold
  let m := w.failProbation i
  have course : Course w m := .failProbation w i
  have selector : m.selector = w.selector := w.updatePeer_selector i e'
  have peers : m.peers = w.peers.set i e' := w.updatePeer_peers i e'
  have empty : m.isolation.queue = [] := by
    show (w.updatePeer i e').isolation.queue.filter _ = []
    rw [(w.updatePeer_queue i e').1, queue]; simp
  have sources : m.resolved = (w.setPeer i e').resolved :=
    State.resolved_congr course.own_station (congrArg Selector.own selector) (by rw [course.config]; rfl)
      (fun j => by rw [State.peer, peers]; rfl) fun j _ => by rw [State.peer, peers]; rfl
  have untrusted : e'.state.trusted = (w.peer i).state.trusted := by rw [onTrial]; rfl
  have kept : (w.setPeer i e').resolved = w.resolved := resolved_setPeer_of_alike untrusted nofun
  exact ⟨⟨by rw [sources, kept, selector]; exact still.1, .inl empty⟩, selector, rfl, empty, peers⟩

/-- An own level of 7 or a claim of it fails the probation of the peer that sends it (R148, R149). -/
theorem level_fails_probation {s : State} {i : Station} (unparked : s.station ≠ .parking) (still : Settled s)
    (queue : s.isolation.queue = [i]) (onTrial : (s.peer i).state = .probation) (l : Level) :
    let t := s.finish ((s.goodFrame.setPeer i { s.goodFrame.peer i with ownLevel := l }).failProbation i)
    OnlyChanges [.line, .peers, .isolation, .engine, .envelope, .pins] s t
      ∧ t.line.lineErrors = s.line.lineErrors - 1
      ∧ t.isolation.probation = none ∧ t.isolation.queue = []
      ∧ t.peers = s.peers.set i (mutedFrom (s.peer i) ((s.peer i).muteReason.getD .score) s.config.muteHold)
      ∧ HandedOver s t := by
  let e : PeerEntry := { s.goodFrame.peer i with ownLevel := l }
  let w := s.goodFrame.setPeer i e
  have quiet := Quiet.goodFrame still
  have entry : w.peer i = e := by rw [State.setPeer_peer, if_pos rfl]
  have state : e.state = .probation := by rw [← onTrial, ← s.goodFrame_peer]
  have old : (s.goodFrame.peer i).state.trusted = false := by rw [s.goodFrame_peer, onTrial]; rfl
  have told := quiet.setPeer old (e := e) old
  have waits : w.isolation.queue = [i] := (congrArg Isolation.queue told.isolation).trans queue
  obtain ⟨settled, selector, probation, empty, peers⟩ := told.still.failProbation waits (by rw [entry]; exact state)
  have noted : Course s.goodFrame (w.failProbation i) := (Course.setPeer _ i e).trans (.failProbation w i)
  have unparked' : s.goodFrame.station ≠ .parking := by rw [quiet.station]; exact unparked
  have station : (w.failProbation i).station = s.station := (noted.station_eq unparked').trans quiet.station
  simp only
  rw [show s.finish _ = s.handOver (w.failProbation i) from State.finish_of_settled settled station]
  refine ⟨?_, ?_, ?_, ?_, ?_, ?_⟩
  · have kept : OnlyChanges [.line, .peers, .isolation, .engine] s.goodFrame (w.failProbation i) :=
      ((noted.onlyChanges unparked').mono (m := [.selector, .line, .peers, .isolation, .engine]) (by decide)).without
        selector
    exact (((OnlyChanges.goodFrame s).mono (by decide)).trans (kept.mono (by decide))).trans
      ((OnlyChanges.handOver s _).mono (by decide))
  · rw [State.handOver_line, noted.lineCounters.1, s.goodFrame_lineErrors]
  · rw [State.handOver_probation, probation]
  · rw [State.handOver_queue, empty]
  · have frame : w.peers = s.peers.set i e := congrArg (Six.set · i e) s.goodFrame_peers
    have config : w.config = s.config := (Works.goodFrame s).config
    rw [State.handOver_peers, peers, entry, frame, Six.set_set, config, ← s.goodFrame_peer i]; rfl
  · exact noted.handedOver unparked' quiet.envelope (congrArg Isolation.suspended quiet.isolation) quiet.contactor
      quiet.releaseCount quiet.straps quiet.station

end Sys2Proof.Machine
end

section
/-! PEER-POSTURE after an ALERT of a trusted peer, case by case of R53. -/

namespace Sys2Proof.Machine

/-! ### An own level alone -/

theorem State.entered_of_level {s : State} {i : Station} {e' : PeerEntry} (old : (s.peer i).state.trusted = true)
    (new : e'.state.trusted = true) : s.entered i e' = s.setPeer i e' := if_neg (by rw [old, new]; decide)

/-- Of a trusted entry that stays trusted with its period, PEER-POSTURE alone is evaluated and presented (R49, R53). -/
theorem State.hearPeer_of_level {s : State} {i : Station} {e' : PeerEntry} (old : (s.peer i).state.trusted = true)
    (new : e'.state.trusted = true) (period : e'.period = (s.peer i).period) :
    s.hearPeer i e' = ((s.setPeer i e').evalPosture i (s.peer i) e').presentPosture i := by
  have up : s.downEvaluated i e' = s.setPeer i e' :=
    (State.downEvaluated_of_up (down_of_trusted old) (down_of_trusted new)).trans
      (State.entered_of_level old new)
  have mismatch : ∀ p, e'.mismatch p = (s.peer i).mismatch p := fun p => by
    simp only [PeerEntry.mismatch, new, old, period]
  have follows : s.mismatchEvaluated i e' = s.postureEvaluated i e' := by
    rw [mismatchEvaluated, evalMismatch, mismatch]
    unfold conditionNow
    cases (s.peer i).mismatch (s.postureEvaluated i e').config.period <;> rfl
  rw [hearPeer, updatePeer_eq, compareAtTrust, if_pos (old.trans new.symm), follows, postureEvaluated, up]

/-- The drive condition reads trust, role and posture of an entry (R118). -/
theorem State.driveCondition_setPeer {s : State} {i : Station} {e : PeerEntry}
    (trusted : e.state.trusted = (s.peer i).state.trusted) (published : e.published = (s.peer i).published)
    (posture : e.posture = (s.peer i).posture) : (s.setPeer i e).driveCondition = s.driveCondition := by
  refine congrArg stations.all (funext fun j => ?_)
  simp only [setPeer_peer]
  split
  next hj => rw [hj, PeerEntry.role, PeerEntry.role, trusted, published, posture]
  next => rfl

/-! ### The table of R53 and the presentation -/

theorem State.present_of_present {u : State} {a : Raise} (h : (u.record a.code).isSome = true) : u.present a = u := by
  obtain ⟨r, hr⟩ := Option.isSome_iff_exists.1 h
  rw [present, hr]

/-- A raise leaves a record of its code where a slot is free. -/
theorem State.raise_present {u : State} {a : Raise} (h4 : a.code ≠ 4) (free : u.generalFull = false) :
    ((u.raise a).record a.code).isSome = true := by
  have post := u.raise_bare a h4
  rw [if_pos rfl] at post
  cases old : u.bare a.code with
  | none =>
    rw [old, raisedRecord, free, Bool.and_false] at post
    exact isSome_of_bare post
  | some r => rw [old] at post; exact isSome_of_bare post

section
variable {u : State} {i : Station} {e e' : PeerEntry} (entry : u.peer i = e')
include entry

theorem State.evalPosture_peer : (u.evalPosture i e e').peer i = e' := by
  rw [(Works.evalPosture u i e e').peer, entry]

/-- An absent record of PEER-POSTURE is raised, by its condition or by its presentation (R53). -/
theorem State.posture_of_absent {l : Level} (adopted : e'.adopted = some l) (absent : u.record (38 + i.val) = none)
    (free : u.generalFull = false) : (u.evalPosture i e e').presentPosture i = u.raise (postureRaise i l) := by
  have absent' : u.record (postureRaise i l).code = none := absent
  rw [presentPosture, evalPosture_peer entry, adopted]
  show (u.evalPosture i e e').present (postureRaise i l) = _
  by_cases same : e.adopted = e'.adopted
  · rw [show u.evalPosture i e e' = u from if_pos same, present, absent', free, Bool.and_false]; rfl
  · have raised : u.evalPosture i e e' = u.raise (postureRaise i l) := by
      rw [evalPosture, if_neg same, adopted, adoptLevel_absent_some absent]
    rw [raised]
    exact present_of_present (raise_present (postureRaise_synthetic i l).2.2.2 free)

/-- Where a record of PEER-POSTURE stands its presentation does nothing (R49). -/
theorem State.posture_of_present {r : Record} (found : u.record (38 + i.val) = some r)
    (table : e.adopted = e'.adopted ∨ TableLaw u.engine.records) :
    (u.evalPosture i e e').presentPosture i = u.evalPosture i e e' := by
  rw [presentPosture, evalPosture_peer entry]
  cases adopted : e'.adopted with
  | none => rfl
  | some l =>
    refine present_of_present (a := postureRaise i l) ?_
    show ((u.evalPosture i e e').record (38 + i.val)).isSome = true
    by_cases same : e.adopted = e'.adopted
    · rw [show u.evalPosture i e e' = u from if_pos same, found]; rfl
    · rw [evalPosture, if_neg same, adopted]
      exact adoptLevel_keeps (table.resolve_left same) found l

end

/-! ### One row of the table of R53 each -/

/-- CL is the highest level of the table (R92): a law of the engine between handlings. -/
theorem EngineLaw.cl_eq {s : State} (h : EngineLaw s) : s.engine.cl = highestLevel s.engine.records := by
  obtain ⟨-, shape, live, -, owned, -, above⟩ := h
  refine le_antisymm ?_ (highestLevel_le.2 above)
  cases stack : s.engine.stack with
  | nil => rw [stack] at shape; rw [show s.engine.cl = 0 from shape]; exact Fin.zero_le _
  | cons f rest =>
    rw [stack] at shape live
    obtain ⟨r, mem, -, -, level⟩ := owned f (by rw [stack]; exact List.mem_cons_self ..) (live f rfl)
    rw [show s.engine.cl = f.level from shape.1.symm, ← level]
    exact highestLevel_le.1 le_rfl r mem

section
variable {u : State} {i : Station} {l : Level} {r : Record} (found : u.record (38 + i.val) = some r)
include found

/-- A higher level: a new record in the place of the old one, and CL the highest level again (R53, R92, R101). -/
theorem State.posture_replaced (law : EngineLaw u) :
    let m := u.replace (postureRaise i l)
    m.bare (38 + i.val) = some (createdBy (postureRaise i l) u)
      ∧ (∀ c, c ≠ 38 + i.val → m.bare c = u.bare c)
      ∧ m.engine.cl = highestLevel m.engine.records := by
  have table : TableLaw u.engine.records := law.1
  have present : (u.record (postureRaise i l).code).isSome = true := Option.isSome_iff_exists.2 ⟨r, found⟩
  have records := replace_bare table present
  refine ⟨?_, fun c hc => (records c).trans (if_neg hc), (law.replace _).cl_eq⟩
  rw [records, if_pos (show 38 + i.val = (postureRaise i l).code from rfl), (postureRaise_synthetic i l).record]

/-- A record that stands is raised again with its own fields (R53, R77). -/
theorem State.posture_reraised (unparked : u.station ≠ .parking) :
    let m := u.raise (postureRaise i l)
    m.record (38 + i.val) = some { r with
        count := min 255 (r.count + 1), unread := true, life := .holds, param := some { station := i, cause := none } }
      ∧ OtherRecords (38 + i.val) u m ∧ m.engine.cl = u.engine.cl ∧ m.engine.stack = u.engine.stack := by
  let a := postureRaise i l
  have found' : u.record a.code = some r := found
  have raised : u.raise a = u.updateRecord a.code (reraised a) := by
    simp only [raise, abandonAt_of_not_parking unparked, found']
  have code : ∀ x, (reraised a x).code = x.code := (reraised_blind a).1
  have records : ∀ c, (u.raise a).record c = if c = a.code then (u.record c).map (reraised a) else u.record c := fun c => by
    rw [raised]; exact findRecord_mapRecord a.code c code _
  refine ⟨?_, fun c hc => (records c).trans (if_neg hc), ?_, ?_⟩
  · rw [show 38 + i.val = a.code from rfl, records, if_pos rfl, found', Option.map_some,
      (postureRaise_synthetic i l).reraised (findRecord_some found').2]
    rfl
  · show (u.raise a).engine.cl = _; rw [raised]; rfl
  · show (u.raise a).engine.stack = _; rw [raised]; rfl

end

end Sys2Proof.Machine
end

section
/-! ALERT_RECEIVED: the peer that is trusted, and the obligation. -/

namespace Sys2Proof.Machine

/-- The entry of the sender with the own level that an ALERT gives (R42). -/
abbrev State.toldEntry (s : State) (a : Alert) : PeerEntry := { s.peer a.sender with ownLevel := a.ownLevel }

/-- The state in which PEER-POSTURE is evaluated. -/
abbrev State.levelTold (s : State) (a : Alert) : State := s.goodFrame.setPeer a.sender (s.toldEntry a)

/-- The state that has heard the ALERT of a trusted peer. -/
abbrev State.levelHeard (s : State) (a : Alert) : State := s.goodFrame.hearPeer a.sender (s.toldEntry a)

theorem Settled.levelTold {s : State} (still : Settled s) (a : Alert) : Settled (s.levelTold a) := by
  have entry := s.goodFrame_peer a.sender
  have kept : (s.levelTold a).resolved = s.goodFrame.resolved :=
    resolved_setPeer_of_alike (by rw [entry]) (by rw [entry]; exact fun _ => rfl)
  exact ⟨kept.trans still.goodFrame.1, still.goodFrame.2⟩

section
variable {a : Alert} {s : State} (trusted : (s.peer a.sender).state.trusted = true)
include trusted

theorem State.takeAlert_of_trusted : s.goodFrame.takeAlert a = s.levelHeard a := by
  have entry := s.goodFrame_peer a.sender
  rcases trusted_cases trusted with h | h <;> simp only [takeAlert, levelHeard, toldEntry, entry, h]

theorem State.levelHeard_eq : s.levelHeard a =
    ((s.levelTold a).evalPosture a.sender (s.peer a.sender) (s.toldEntry a)).presentPosture a.sender := by
  have entry := s.goodFrame_peer a.sender
  have heard := hearPeer_of_level (s := s.goodFrame) (i := a.sender) (e' := s.toldEntry a) (by rw [entry]; exact trusted)
    trusted (by rw [entry])
  rwa [entry] at heard

theorem Works.levelHeard : Works (s.levelTold a) (s.levelHeard a) := by
  rw [State.levelTold, ← State.entered_of_level (by rw [s.goodFrame_peer]; exact trusted)
    (show (s.toldEntry a).state.trusted = true from trusted)]
  exact .hearPeer ..

/-- The adopted level of a trusted peer follows its own level (R52). -/
theorem State.adopted_eq_from : (s.peer a.sender).adopted
      = adoptedFrom (s.peer a.sender).flags.isolated (s.peer a.sender).ownLevel
    ∧ (s.toldEntry a).adopted = adoptedFrom (s.peer a.sender).flags.isolated a.ownLevel := by
  have live := (trusted_iff _).1 trusted
  exact ⟨(adopted_eq _).trans (if_pos live), (adopted_eq _).trans (if_pos live)⟩

variable (unparked : s.station ≠ .parking) (still : Settled s)
include unparked

theorem State.levelHeard_station : (s.levelHeard a).station = s.station := by
  have station : (s.levelTold a).station = s.station := by
    show s.goodFrame.start.station = _; rw [s.goodFrame_start]; rfl
  exact ((Works.levelHeard trusted).station_eq (by rw [station]; exact unparked)).trans station

include still

theorem finish_levelHeard : s.finish (s.levelHeard a) = s.handOver (s.levelHeard a) :=
  State.finish_of_settled ((Works.levelHeard trusted).settled (still.levelTold a))
    (State.levelHeard_station trusted unparked)

/-- What the ALERT of a trusted peer leaves, the engine apart (R28, R42, R105). -/
theorem level_heard :
    let t := s.handOver (s.levelHeard a)
    OnlyChanges [.line, .peers, .isolation, .engine, .envelope, .pins] s t
      ∧ t.line.lineErrors = s.line.lineErrors - 1
      ∧ t.peers = s.peers.set a.sender (s.toldEntry a)
      ∧ HandedOver s t := by
  have works := Works.levelHeard (a := a) trusted
  have quiet := Quiet.goodFrame still
  have unparked' : (s.levelTold a).station ≠ .parking := by
    rw [show (s.levelTold a).station = s.station from quiet.station]; exact unparked
  refine ⟨?_, ?_, ?_, ?_⟩
  · exact (((OnlyChanges.goodFrame s).mono (by decide)).trans ((OnlyChanges.setPeer _ _ _).mono (by decide))).trans
      (works.onlyChanges_handOver unparked' s (by decide))
  · rw [State.handOver_line, works.course.lineCounters.1]
    exact s.goodFrame_lineErrors
  · rw [State.handOver_peers, works.peers]
    exact congrArg (Six.set · a.sender _) s.goodFrame_peers
  · exact works.handedOver quiet.envelope (congrArg Isolation.suspended quiet.isolation) quiet.contactor
      quiet.releaseCount quiet.straps quiet.station unparked'

end

/-! ### PEER-POSTURE on a line that is not degraded -/

section
variable {a : Alert} {s : State} (trusted : (s.peer a.sender).state.trusted = true)
  (fine : s.line.degraded = false)

theorem State.levelTold_entry (s : State) (a : Alert) : (s.levelTold a).peer a.sender = s.toldEntry a := by
  rw [levelTold, setPeer_peer, if_pos rfl]

include fine in
theorem State.levelTold_engine : (s.levelTold a).engine = s.engine := goodFrame_engine fine

include fine in
theorem State.levelTold_record (c : Nat) : (s.levelTold a).record c = s.record c := by
  rw [record, levelTold_engine fine]; rfl

theorem State.levelTold_station (s : State) (a : Alert) : (s.levelTold a).station = s.station := by
  show s.goodFrame.start.station = _; rw [s.goodFrame_start]; rfl

include fine in
/-- What finds nothing to do leaves the engine (R105). -/
theorem level_quiet (heard : s.levelHeard a = s.levelTold a) : (s.handOver (s.levelHeard a)).engine = s.engine := by
  have engine := State.levelTold_engine (a := a) fine
  have entry := s.goodFrame_peer a.sender
  have drive : (s.levelTold a).driveCondition = s.driveCondition := by
    have same : (s.levelTold a).driveCondition = s.goodFrame.driveCondition :=
      State.driveCondition_setPeer (by rw [entry]) (by rw [entry]) (by rw [entry])
    rw [same, State.goodFrame_of_fine fine]; rfl
  have contactor : s.handToContactor (s.levelTold a) = s.levelTold a :=
    State.handToContactor_of_still (by rw [engine]) drive (s.levelTold_station a)
  rw [heard, State.handOver, contactor]
  show (s.close (s.followSuspension (s.levelTold a))).engine = _
  rw [State.close_engine, State.followSuspension_engine, engine]

include trusted fine

/-- An absent record is raised at the adopted level (R53). -/
theorem level_raised (unparked : s.station ≠ .parking) (free : s.generalFull = false)
    (absent : s.record (38 + a.sender.val) = none) {l : Level}
    (adopted : adoptedFrom (s.peer a.sender).flags.isolated a.ownLevel = some l) :
    PartRaised (postureRaise a.sender l) s (s.handOver (s.levelHeard a)) := by
  have engine := State.levelTold_engine (a := a) fine
  obtain ⟨-, now⟩ := State.adopted_eq_from (a := a) trusted
  have absent' : (s.levelTold a).record (38 + a.sender.val) = none := by rw [State.levelTold_record fine]; exact absent
  have free' : (s.levelTold a).generalFull = false := by rw [State.generalFull_of_engine engine]; exact free
  have heard : s.levelHeard a = (s.levelTold a).raise (postureRaise a.sender l) := by
    rw [State.levelHeard_eq trusted,
      State.posture_of_absent (s.levelTold_entry a) (now.trans adopted) absent' free']
  have synthetic := postureRaise_synthetic a.sender l
  rw [heard]
  exact (PartRaised.of_absent (a := postureRaise a.sender l) (.inl (by rw [s.levelTold_station a]; exact unparked))
    absent' free' synthetic.2.1 synthetic.2.2.1 synthetic.2.2.2).of_engine engine.symm (by simp) (by simp) (by simp)

/-- Where a record stands, the table of R53 is all (R49, R53). -/
theorem State.levelHeard_of_present {r : Record} (found : s.record (38 + a.sender.val) = some r)
    (moves : adoptedFrom (s.peer a.sender).flags.isolated a.ownLevel
      ≠ adoptedFrom (s.peer a.sender).flags.isolated (s.peer a.sender).ownLevel) (law : EngineLaw s) :
    s.levelHeard a
      = (s.levelTold a).adoptLevel a.sender (adoptedFrom (s.peer a.sender).flags.isolated a.ownLevel) := by
  obtain ⟨was, now⟩ := adopted_eq_from (a := a) trusted
  have table : TableLaw (s.levelTold a).engine.records := by rw [levelTold_engine fine]; exact law.1
  rw [levelHeard_eq trusted, posture_of_present (s.levelTold_entry a) (by rw [levelTold_record fine]; exact found)
    (.inr table), evalPosture, was, now, if_neg (Ne.symm moves)]

/-- A level that stays changes no record that is present (R53). -/
theorem level_stays (same : adoptedFrom (s.peer a.sender).flags.isolated a.ownLevel
      = adoptedFrom (s.peer a.sender).flags.isolated (s.peer a.sender).ownLevel)
    (present : s.record (38 + a.sender.val) ≠ none) : (s.handOver (s.levelHeard a)).engine = s.engine := by
  obtain ⟨r, found⟩ := Option.ne_none_iff_exists'.1 present
  obtain ⟨was, now⟩ := State.adopted_eq_from (a := a) trusted
  have unmoved : (s.peer a.sender).adopted = (s.toldEntry a).adopted := by rw [was, now, same]
  refine level_quiet fine ?_
  rw [State.levelHeard_eq trusted, State.posture_of_present (s.levelTold_entry a)
    (by rw [State.levelTold_record fine]; exact found) (.inl unmoved)]
  exact if_pos unmoved

section
variable (law : EngineLaw s) {r : Record} (found : s.record (38 + a.sender.val) = some r) {l : Option Level}
  (adopted : adoptedFrom (s.peer a.sender).flags.isolated a.ownLevel = l)
  (moves : adoptedFrom (s.peer a.sender).flags.isolated a.ownLevel
    ≠ adoptedFrom (s.peer a.sender).flags.isolated (s.peer a.sender).ownLevel)
include law found adopted moves

theorem State.levelHeard_of_adopted : s.levelHeard a = (s.levelTold a).adoptLevel a.sender l := by
  rw [levelHeard_of_present trusted fine found moves law, adopted]

/-- A higher level replaces the record (R53, R101). -/
theorem level_replaces {k : Level} (some : l = some k) (higher : r.level < k) :
    let t := s.handOver (s.levelHeard a)
    t.bare (38 + a.sender.val) = .some (createdBy (postureRaise a.sender k) s)
      ∧ (∀ c, c ≠ 38 + a.sender.val → t.bare c = s.bare c)
      ∧ t.engine.cl = highestLevel t.engine.records := by
  have engine := State.levelTold_engine (a := a) fine
  have found' : (s.levelTold a).record (38 + a.sender.val) = .some r := by rw [State.levelTold_record fine]; exact found
  have law' : EngineLaw (s.levelTold a) := by unfold EngineLaw; rw [engine]; exact law
  have heard : s.levelHeard a = (s.levelTold a).replace (postureRaise a.sender k) := by
    rw [State.levelHeard_of_adopted trusted fine law found adopted moves, some, State.adoptLevel_present_some found',
      if_pos higher]
  obtain ⟨new, others, cl⟩ := State.posture_replaced (l := k) found' law'
  refine ⟨?_, fun c hc => ?_, ?_⟩
  · rw [State.handOver_bare, heard, new, createdBy, engine]; rfl
  · rw [State.handOver_bare, heard, others c hc, State.bare_of_engine engine]
  · rw [State.handOver_cl, State.handOver_records, heard, cl]

/-- A lower level, or none, ends a condition that held, and leaves alone one that had ended (R53, R80). -/
theorem level_falls (lower : ∀ k ∈ l, k < r.level) :
    (r.life = .holds → ConditionEnds (38 + a.sender.val) s (s.handOver (s.levelHeard a)))
      ∧ (r.life ≠ .holds → (s.handOver (s.levelHeard a)).engine = s.engine) := by
  have engine := State.levelTold_engine (a := a) fine
  have found' : (s.levelTold a).record (38 + a.sender.val) = some r := by rw [State.levelTold_record fine]; exact found
  have heard : s.levelHeard a = if r.life = .holds then (s.levelTold a).conditionGone (38 + a.sender.val)
      else s.levelTold a := by
    rw [State.levelHeard_of_adopted trusted fine law found adopted moves]
    cases l with
    | none => exact State.adoptLevel_present_none found'
    | some k =>
      have below : k < r.level := lower k rfl
      rw [State.adoptLevel_present_some found', if_neg (lt_asymm below), if_pos below, if_neg below.ne]
  refine ⟨fun holds => ?_, fun ended => level_quiet fine (heard.trans (if_neg ended))⟩
  rw [heard, if_pos holds]
  exact (ConditionEnds.conditionGone (s.levelTold a) _).of_engine engine.symm (by simp) (by simp) (by simp)

/-- A record whose condition had ended is raised again at its own level (R53, R77). -/
theorem level_returns (unparked : s.station ≠ .parking) (same : l = some r.level) (ended : r.life ≠ .holds) :
    let t := s.handOver (s.levelHeard a)
    t.record (38 + a.sender.val) = some { r with
        count := min 255 (r.count + 1), unread := true, life := .holds
        param := some { station := a.sender, cause := none } }
      ∧ OtherRecords (38 + a.sender.val) s t ∧ t.engine.cl = s.engine.cl ∧ t.engine.stack = s.engine.stack := by
  have engine := State.levelTold_engine (a := a) fine
  have found' : (s.levelTold a).record (38 + a.sender.val) = some r := by rw [State.levelTold_record fine]; exact found
  have heard : s.levelHeard a = (s.levelTold a).raise (postureRaise a.sender r.level) := by
    rw [State.levelHeard_of_adopted trusted fine law found adopted moves, same, State.adoptLevel_present_some found',
      if_neg (lt_irrefl _), if_neg ended, if_pos rfl]
  obtain ⟨record, others, cl, stack⟩ :=
    State.posture_reraised (l := r.level) found' (by rw [s.levelTold_station a]; exact unparked)
  refine ⟨?_, fun c hc => ?_, ?_, ?_⟩
  · rw [State.handOver_record, heard, record]
  · rw [State.handOver_record, heard, others c hc, State.levelTold_record fine]
  · rw [State.handOver_cl, heard, cl, engine]
  · rw [State.handOver_stack, heard, stack, engine]

end

end

/-- Settles O50: by the state of the sender's entry, and for a trusted one by the table of R53. -/
theorem alertStoresTheOwnLevel : Obligations.AlertStoresTheOwnLevel := by
  rintro a _ s hst still wf other rfl
  have unparked : s.station ≠ .parking := by rcases hst with h | h <;> rw [h] <;> decide
  have onLine : s.station.onLine = true := by rcases hst with h | h <;> rw [h] <;> rfl
  have ran := execAlert onLine wf other
  have entry := s.goodFrame_peer a.sender
  refine ⟨fun trusted => ?_, fun lost => ?_, fun unheard => ?_, fun p running mine alone law => ?_⟩
  · rw [State.takeAlert_of_trusted trusted, finish_levelHeard trusted unparked still] at ran
    obtain ⟨changes, lineErrors, peers, handed⟩ := level_heard trusted unparked still
    refine ⟨_, ran, changes, lineErrors, peers, handed, fun fine => ⟨fun free absent l adopted => ?_,
      fun moves law r found => ⟨fun l adopted higher => ?_, fun lower => ?_, fun same ended => ?_, fun lower => ?_⟩,
      level_stays trusted fine⟩⟩
    · exact level_raised trusted fine unparked free absent adopted
    · exact level_replaces trusted fine law found adopted moves rfl higher
    · exact (level_falls trusted fine law found rfl moves lower).1
    · exact level_returns trusted fine law found same moves unparked rfl ended
    · exact (level_falls trusted fine law found rfl moves lower).2
  · rw [State.takeAlert_of_lost (by rw [entry]; exact lost)] at ran
    obtain ⟨changes, lineErrors, -, peers, engine, handed⟩ :=
      level_stored still (i := a.sender) (by rw [lost]; rfl) a.ownLevel
    exact ⟨_, ran, changes, lineErrors, peers, engine, handed⟩
  · rw [State.takeAlert_of_unheard (by rw [entry]; exact unheard)] at ran
    exact ⟨_, ran, frame_counted still⟩
  · obtain ⟨-, -, onProbation, -⟩ := law
    have onTrial : (s.peer a.sender).state = .probation := mine ▸ (onProbation p running).2
    have taken := State.takeAlert_of_probation (s := s.goodFrame) (a := a) (by rw [entry]; exact onTrial)
    by_cases seven : AlertGivesSeven (s.peer a.sender) a
    · rw [taken, if_pos (by rw [entry]; exact (alertGivesSeven_iff _ a).2 seven)] at ran
      obtain ⟨changes, lineErrors, probation, queue, peers, handed⟩ :=
        level_fails_probation unparked still alone onTrial a.ownLevel
      exact ⟨_, ran, changes, lineErrors, fun _ => ⟨probation, queue, peers⟩, fun h => absurd seven h, handed⟩
    · rw [taken, if_neg (by rw [entry]; exact mt (alertGivesSeven_iff _ a).1 seven)] at ran
      obtain ⟨changes, lineErrors, isolation, peers, engine, handed⟩ :=
        level_stored still (i := a.sender) (by rw [onTrial]; rfl) a.ownLevel
      exact ⟨_, ran, changes.mono (by decide), lineErrors, fun h => absurd h seven,
        fun _ => ⟨isolation, peers, engine⟩, handed⟩

end Sys2Proof.Machine
end

section
/-! A peer that has asked for probation at its beacon, up to the end of the handling. -/

namespace Sys2Proof.Machine

/-- At `m` the untrusted peer `i`, whose entry is `e'`, stands in the rejoin queue, and what is served has not been
worked out yet (R146). -/
structure Asking (i : Station) (e' : PeerEntry) (s m : State) : Prop where
  queue : m.isolation.queue = if i ∈ s.isolation.queue then s.isolation.queue else s.isolation.queue ++ [i]
  probation : m.isolation.probation = s.isolation.probation
  peers : m.peers = s.peers.set i e'
  untrusted : e'.state.trusted = false
  selector : m.selector = s.selector
  changes : OnlyChanges [.start, .line, .peers, .isolation, .engine] s m
  station : m.station = s.station
  straps : m.start.straps = s.start.straps
  suspended : m.isolation.suspended = s.isolation.suspended
  contactor : m.engine.contactor = s.engine.contactor
  releaseCount : m.engine.releaseCount = s.engine.releaseCount

theorem State.onLine_of_joined {s : State} (hst : s.station = .join ∨ s.station = .run) :
    s.station.onLine = true := by
  rcases hst with h | h <;> rw [h] <;> rfl

theorem State.enqueueRejoin_eq (m : State) (i : Station) : m.enqueueRejoin i = m.setIsolation { m.isolation with
    queue := if i ∈ m.isolation.queue then m.isolation.queue else m.isolation.queue ++ [i] } := by
  unfold enqueueRejoin
  by_cases h : i ∈ m.isolation.queue
  · rw [if_pos (List.contains_iff_mem.2 h), if_pos h]; rfl
  · rw [if_neg (mt List.contains_iff_mem.1 h), if_neg h]

/-- Start control and the line counters as the frame leaves them, before the engine works. -/
theorem OnlyChanges.frameNoted (s : State) (i : Station) (r : Role) : OnlyChanges [.start, .line] s (s.frameNoted i r) :=
  ((OnlyChanges.setLine s _).mono (by decide)).trans ((OnlyChanges.setStart _ _).mono (by decide))

theorem OnlyChanges.setQueue (s : State) (u : Isolation) : OnlyChanges [.isolation] s (s.setIsolation u) :=
  ⟨rfl, fun b hb => by revert hb; cases b <;> simp [SameBlock]⟩

/-- What the work of a beacon leaves before its peer asks (R9, R28, R36). -/
theorem Course.heardBeacon {s m : State} {b : Beacon} (hst : s.station = .join ∨ s.station = .run)
    (course : Course (s.told b) m) (selector : m.selector = s.selector) :
    OnlyChanges [.start, .line, .peers, .isolation, .engine] s m ∧ m.station = s.station := by
  have whole := Course.ofFrame hst course
  have unparked := State.frameNoted_unparked (i := b.sender) (r := b.published.role) hst
  have kept : OnlyChanges [.selector, .start, .line, .peers, .isolation, .engine] s m :=
    ((OnlyChanges.frameNoted s _ _).mono (by decide)).trans ((whole.onlyChanges unparked).mono (by decide))
  exact ⟨kept.without selector, whole.station_eq unparked⟩

theorem Asking.of_course {s m : State} {b : Beacon} {e' : PeerEntry} (hst : s.station = .join ∨ s.station = .run)
    (course : Course (s.told b) m) (queue : m.isolation.queue = s.isolation.queue)
    (probation : m.isolation.probation = s.isolation.probation) (peers : m.peers = s.peers.set b.sender e')
    (selector : m.selector = s.selector) (untrusted : e'.state.trusted = false) :
    Asking b.sender e' s (m.enqueueRejoin b.sender) := by
  have whole := Course.ofFrame hst course
  obtain ⟨changes, station⟩ := Course.heardBeacon hst course selector
  obtain ⟨-, contactor, releaseCount⟩ := whole.counts
  rw [m.enqueueRejoin_eq]
  exact {
    queue := by rw [← queue]; rfl
    probation := probation
    peers := peers
    untrusted := untrusted
    selector := selector
    changes := changes.trans ((OnlyChanges.setQueue m _).mono (by decide))
    station := station
    straps := whole.straps
    suspended := whole.suspended
    contactor := contactor
    releaseCount := releaseCount }

/-! ### The end of the handling -/

theorem State.startProbation_of_waiting {s : State} {i : Station} {rest : List Station}
    (onLine : s.station.onLine = true) (none : s.isolation.probation = none) (queue : s.isolation.queue = i :: rest) :
    s.startProbation = (s.onTrial i).updatePeer i (s.peer i).onProbation := by
  rw [startProbation, if_pos onLine]
  split
  next j _ _ waits =>
    obtain ⟨rfl, -⟩ := List.cons.inj (queue.symm.trans waits)
    rfl
  next h => exact absurd queue (h i rest none)

section
variable {i : Station} {e' : PeerEntry} {s m : State} (asking : Asking i e' s m)
include asking

theorem Asking.peer : m.refreshServed.peer i = e' := by
  rw [(SamePeers.refreshServed m).peer, State.peer, asking.peers, Six.get_set, if_pos rfl]

/-- Another probation runs, and the peer waits. -/
theorem Asking.waits (running : s.isolation.probation ≠ none) : m.refreshServed.startProbation = m.refreshServed := by
  refine State.startProbation_of_running (.inr ?_)
  rw [(SamePeers.refreshServed m).probation, asking.probation]
  exact Option.isSome_iff_ne_none.2 running

variable (onLine : s.station.onLine = true) (still : Settled s)
include onLine

theorem Asking.resolving : resolving m.station := resolving_of_onLine (asking.station ▸ onLine)

include still

/-- No probation runs, so none waited, and that of the peer starts (R146, R147). -/
theorem Asking.starts (free : s.isolation.probation = none) :
    m.refreshServed.startProbation = (m.refreshServed.onTrial i).updatePeer i e'.onProbation := by
  have same := SamePeers.refreshServed m
  have empty : s.isolation.queue = [] := still.2.resolve_right (by rw [free]; decide)
  have queue : m.refreshServed.isolation.queue = [i] := by rw [same.queue, asking.queue, empty]; rfl
  have none : m.refreshServed.isolation.probation = .none := by rw [same.probation, asking.probation, free]
  have live : m.refreshServed.station.onLine = true := by
    rw [(Course.refreshServed m).onLine, asking.station]; exact onLine
  rw [State.startProbation_of_waiting live none queue, asking.peer]

theorem Asking.startProbation_selector :
    m.refreshServed.startProbation.selector = m.refreshServed.selector := by
  by_cases free : s.isolation.probation = none
  · rw [asking.starts onLine still free, State.updatePeer_selector]; rfl
  · rw [asking.waits free]

theorem Asking.startProbation_peers : m.refreshServed.startProbation.peers =
    s.peers.set i (if s.isolation.probation = none then e'.onProbation else e') := by
  have peers : m.refreshServed.peers = s.peers.set i e' := (SamePeers.refreshServed m).peers.trans asking.peers
  split
  next free =>
    rw [asking.starts onLine still free, State.updatePeer_peers]
    show m.refreshServed.peers.set i _ = _
    rw [peers, Six.set_set]
  next running => rw [asking.waits running, peers]

/-- What is served needs no further work once the probation has started (R59). -/
theorem Asking.startProbation_resolved :
    m.refreshServed.startProbation.resolved = m.refreshServed.resolved := by
  have course := Course.startProbation m.refreshServed
  have untrusted : ∀ x : PeerEntry, x = (if s.isolation.probation = none then e'.onProbation else e') →
      x.state.trusted = false := by
    rintro x rfl; split
    · rfl
    · exact asking.untrusted
  have entry : ∀ j, m.refreshServed.startProbation.peer j
      = if j = i then (if s.isolation.probation = none then e'.onProbation else e') else m.refreshServed.peer j := by
    intro j
    rw [State.peer, asking.startProbation_peers onLine still, Six.get_set, State.peer, (SamePeers.refreshServed m).peers,
      asking.peers, Six.get_set]
    split <;> rfl
  refine State.resolved_congr course.own_station course.own (by rw [course.config]) (fun j => ?_) fun j hj => ?_
  · rw [entry]; split
    next h => rw [untrusted _ rfl, h, asking.peer, asking.untrusted]
    next => rfl
  · rw [entry] at hj ⊢; split at hj
    next => exact absurd ((untrusted _ rfl).symm.trans hj) nofun
    next h => rw [if_neg h]

/-- The peer stands in the rejoin queue, and its probation has started where none runs (R146, R147). -/
theorem Asking.asksForProbation :
    AsksForProbation i e' s (s.handOver m.refreshServed.startProbation) := by
  have same := SamePeers.refreshServed m
  have peers := asking.startProbation_peers onLine still
  have queue : m.refreshServed.startProbation.isolation.queue = m.isolation.queue := by
    by_cases free : s.isolation.probation = none
    · rw [asking.starts onLine still free, (State.updatePeer_queue ..).1]; exact same.queue
    · rw [asking.waits free, same.queue]
  refine ⟨by rw [State.handOver_queue, queue, asking.queue], ?_⟩
  split
  next free =>
    rw [if_pos free] at peers
    refine ⟨?_, by rw [State.handOver_peers, peers]; rfl⟩
    rw [State.handOver_probation, asking.starts onLine still free, (State.updatePeer_queue ..).2, State.onTrial,
      asking.peer]
    rfl
  next running =>
    rw [if_neg running] at peers
    refine ⟨?_, by rw [State.handOver_peers, peers]⟩
    rw [State.handOver_probation, asking.waits running, same.probation, asking.probation]

/-- The served values are those the sources give, and the band has followed (R59, R70). -/
theorem Asking.served :
    let t := s.handOver m.refreshServed.startProbation
    t.selector.own = s.selector.own ∧ t.selector.served = t.resolved ∧ BandFollows s t := by
  have res := asking.resolving onLine
  have selector : (s.handOver m.refreshServed.startProbation).selector = m.refreshedSelector := by
    rw [State.handOver_selector, asking.startProbation_selector onLine still, State.refreshServed_selector res]
  have sources : (s.handOver m.refreshServed.startProbation).resolved = m.resolved := by
    rw [← State.refreshServed_resolved res, ← asking.startProbation_resolved onLine still]
    exact State.resolved_congr (by rw [State.own, State.handOver_start]; rfl) (by rw [State.handOver_selector])
      (by rw [State.handOver_config]) (fun j => by rw [State.handOver_peer]) fun j _ => by rw [State.handOver_peer]
  refine ⟨?_, ?_, ?_⟩
  · rw [selector, m.refreshedSelector_own, asking.selector]
  · rw [selector, m.refreshedSelector_served, sources]
  · exact (BandFollows.refreshedSelector m).of_selector asking.selector.symm (asking.changes.2 .config (by decide)).symm
      selector

end

section
variable {i : Station} {e' : PeerEntry} {s m : State} (asking : Asking i e' s m) (unparked : s.station ≠ .parking)
include asking unparked

theorem Asking.not_parking : m.station ≠ .parking := by rw [asking.station]; exact unparked

theorem Asking.finish : s.finish m = s.handOver m.refreshServed.startProbation := by
  have station : m.refreshServed.startProbation.station = s.station :=
    ((Course.settle m).station_eq (asking.not_parking unparked)).trans asking.station
  rw [State.finish, State.checkAfterPark_of_same station]

theorem Asking.handedOver : HandedOver s (s.handOver m.refreshServed.startProbation) :=
  (Course.settle m).handedOver (asking.not_parking unparked) (asking.changes.2 .envelope (by decide)) asking.suspended
    asking.contactor asking.releaseCount asking.straps asking.station

theorem Asking.onlyChanges :
    OnlyChanges [.selector, .start, .line, .peers, .isolation, .engine, .envelope, .pins] s
      (s.handOver m.refreshServed.startProbation) :=
  ((asking.changes.mono (by decide)).trans
    (((Course.settle m).onlyChanges (asking.not_parking unparked)).mono (by decide))).trans
    ((OnlyChanges.handOver s _).mono (by decide))

end

end Sys2Proof.Machine
end

section
/-! A beacon of a LOST and of a MUTED peer. -/

namespace Sys2Proof.Machine

/-- An entry that was not trusted and is not, and that is as far down as before, is stored and nothing else happens. -/
theorem State.updatePeer_of_untrusted {s : State} {i : Station} {e' : PeerEntry}
    (old : (s.peer i).state.trusted = false) (new : e'.state.trusted = false)
    (down : e'.state.down = (s.peer i).state.down) (cause : e'.downCause = (s.peer i).downCause) :
    s.updatePeer i e' = s.setPeer i e' := by
  have entered : s.entered i e' = s.setPeer i e' := if_neg (by rw [old, Bool.false_and]; decide)
  have downs : s.downEvaluated i e' = s.setPeer i e' := by
    rw [downEvaluated, evalDown, down, cause, entered]
    cases (s.peer i).state.down <;> simp
  have adopted : (s.peer i).adopted = e'.adopted := (adopted_of_untrusted old).trans (adopted_of_untrusted new).symm
  have mismatch : ∀ e : PeerEntry, e.state.trusted = false → ∀ p, e.mismatch p = false := fun e h p => by
    rw [PeerEntry.mismatch, h]; rfl
  have posture : s.postureEvaluated i e' = s.setPeer i e' := by
    rw [postureEvaluated, downs]; exact if_pos adopted
  have mismatched : s.mismatchEvaluated i e' = s.setPeer i e' := by
    rw [mismatchEvaluated, posture, evalMismatch, mismatch _ old, mismatch _ new]; rfl
  rw [updatePeer_eq, mismatched]
  exact if_pos (old.trans new.symm)

theorem asksReturn_iff (e : PeerEntry) (b : Beacon) :
    (e.muteHold = some 0 ∧ asksReturn b = true) ↔ MutedAsks e b := by
  simp [asksReturn, MutedAsks, or_assoc]

section
variable {b : Beacon} {s : State} (hst : s.station = .join ∨ s.station = .run)

/-- The entry of the sender and the directives as a beacon of a peer that is not trusted leaves them. -/
def State.keptBeacon (s : State) (b : Beacon) (d : List (Queued Directive)) (e' : PeerEntry) : State :=
  ((s.told b).setLine { (s.told b).line with directives := d }).setPeer b.sender e'

theorem State.keptBeacon_peer (d : List (Queued Directive)) (e' : PeerEntry) :
    (s.keptBeacon b d e').peer b.sender = e' := by rw [keptBeacon, setPeer_peer, if_pos rfl]

theorem Course.keptBeacon (d : List (Queued Directive)) (e' : PeerEntry) :
    Course (s.told b) (s.keptBeacon b d e') :=
  Course.revise (s.told b) (x := (s.told b).selector) (u := (s.told b).isolation) rfl rfl fun _ h => h

include hst

theorem State.told_directives : (s.told b).line.directives = s.line.directives := by
  obtain ⟨g, line⟩ := (Works.roleTaken (i := b.sender) (r := b.published.role) hst).line_eq (frameNoted_unparked hst)
  rw [line]; rfl

theorem State.takeBeacon_of_lost (lost : (s.peer b.sender).state = .lost) :
    (s.told b).takeBeacon b
      = (s.keptBeacon b s.line.directives (storedFrom (s.peer b.sender) b)).enqueueRejoin b.sender := by
  have entry := told_peer (b := b) hst b.sender
  have stored : (s.told b).updatePeer b.sender (storedFrom (s.peer b.sender) b)
      = (s.told b).setPeer b.sender (storedFrom (s.peer b.sender) b) :=
    updatePeer_of_untrusted (by rw [entry, lost]; rfl) (by show (s.peer b.sender).state.trusted = _; rw [lost]; rfl)
      (by rw [entry]; rfl) (by rw [entry]; rfl)
  have taken : (s.told b).takeBeacon b = (s.told b).beaconAtLost b := by
    unfold takeBeacon; rw [entry, lost]
  rw [taken, beaconAtLost, entry, keptBeacon, ← told_directives (b := b) hst]
  exact congrArg (State.enqueueRejoin · b.sender) stored

theorem State.takeBeacon_of_muted (muted : (s.peer b.sender).state = .muted) :
    let m := s.keptBeacon b (ceaseGiven b.sender (s.peer b.sender) s.line.directives)
      (mutedHeard (s.peer b.sender) b s.line.directives)
    (s.told b).takeBeacon b
      = if (s.peer b.sender).muteHold = some 0 ∧ asksReturn b = true then m.enqueueRejoin b.sender else m := by
  intro m
  let e1 : PeerEntry := { s.peer b.sender with lastSeq := b.sequence, flags := b.flags }
  have entry := told_peer (b := b) hst b.sender
  have noted : ((s.told b).setPeer b.sender e1).peer b.sender = e1 := by rw [setPeer_peer, if_pos rfl]
  have taken : (s.told b).takeBeacon b = (s.told b).beaconAtMuted b := by
    unfold takeBeacon; rw [entry, muted]
  have counted : ((s.told b).setPeer b.sender e1).countMuted b.sender = m := by
    rw [countMuted_of_muted (by rw [noted]; exact muted), noted]
    show ((((s.told b).setPeer b.sender e1).setLine _).setPeer b.sender _) = m
    rw [show ((s.told b).setPeer b.sender e1).line = (s.told b).line from rfl, told_directives hst]
    exact ((s.told b).setLine _).setPeer_setPeer b.sender e1 _
  have held : (m.peer b.sender).muteHold = (s.peer b.sender).muteHold := by
    rw [show m.peer b.sender = _ from keptBeacon_peer ..]; rfl
  rw [taken, beaconAtMuted, entry]
  show (if ((((s.told b).setPeer b.sender e1).countMuted b.sender).peer b.sender).muteHold = some 0
      ∧ asksReturn b = true
    then (((s.told b).setPeer b.sender e1).countMuted b.sender).enqueueRejoin b.sender
    else ((s.told b).setPeer b.sender e1).countMuted b.sender) = _
  rw [counted, held]

end

/-! ### The end of the handling -/

section
variable {b : Beacon} {s : State} {d : List (Queued Directive)} {e' : PeerEntry}
  (hst : s.station = .join ∨ s.station = .run) (still : Settled s) (old : (s.peer b.sender).state.trusted = false)
  (new : e'.state.trusted = false)
include hst still old new

/-- The sources of the served values stay. -/
theorem State.keptBeacon_settled : Settled (s.keptBeacon b d e') := by
  have told := Works.roleTaken (i := b.sender) (r := b.published.role) hst
  have sources : (s.keptBeacon b d e').resolved = (s.told b).resolved :=
    resolved_setPeer_of_alike (s := (s.told b).setLine _)
      (by rw [new]; exact ((told_peer (b := b) hst b.sender).symm ▸ old).symm) fun h => absurd (new.symm.trans h) nofun
  have settled : Settled (s.frameNoted b.sender b.published.role) := by
    refine ⟨Eq.trans ?_ still.1, still.2⟩
    exact State.resolved_congr rfl rfl rfl (fun _ => rfl) fun _ _ => rfl
  obtain ⟨served, waits⟩ := told.settled settled
  exact ⟨sources.trans served, waits⟩

omit still old new in
theorem State.keptBeacon_after : (s.keptBeacon b d e').isolation.queue = s.isolation.queue
    ∧ (s.keptBeacon b d e').isolation.probation = s.isolation.probation
    ∧ (s.keptBeacon b d e').peers = s.peers.set b.sender e'
    ∧ (s.keptBeacon b d e').selector = s.selector := by
  obtain ⟨queue, probation, -⟩ := State.roleTaken_queue (i := b.sender) (r := b.published.role) hst
  exact ⟨queue, probation, congrArg (Six.set · b.sender e') (State.roleTaken_peers hst),
    State.roleTaken_selector hst⟩

/-- The sender asks for its probation: what is served stays, and the probation starts where none runs. -/
theorem keptBeacon_asks :
    let t := s.finish ((s.keptBeacon b d e').enqueueRejoin b.sender)
    AsksForProbation b.sender e' s t ∧ t.line.directives = d
      ∧ OnlyChanges [.start, .line, .peers, .isolation, .engine, .envelope, .pins] s t ∧ HandedOver s t := by
  let m := (s.keptBeacon b d e').enqueueRejoin b.sender
  obtain ⟨queue, probation, peers, selector⟩ := State.keptBeacon_after (b := b) (d := d) (e' := e') hst
  obtain ⟨served, -⟩ := State.keptBeacon_settled (d := d) hst still old new
  have asking : Asking b.sender e' s m := .of_course hst (.keptBeacon d e') queue probation peers selector new
  have unparked := State.frameNoted_unparked (i := b.sender) (r := b.published.role) hst
  have onLine := State.onLine_of_joined hst
  have queued : m = (s.keptBeacon b d e').setIsolation _ := State.enqueueRejoin_eq ..
  have still' : m.refreshServed = m := by
    refine State.refreshServed_of_resolved ?_
    rw [queued]; exact served
  have line : m.startProbation.line.directives = d := by
    have before : m.line.directives = d := by rw [queued]; rfl
    obtain same | ⟨j, rest, -, -, started⟩ := m.startProbation_cases
    · rw [same, before]
    · obtain ⟨g, line⟩ := (Works.updatePeer (m.onTrial j) j (m.peer j).onProbation).line_eq (by
        rw [State.station, State.entered_start]; exact asking.not_parking unparked)
      rw [started, line]
      have entered : ((m.onTrial j).entered j (m.peer j).onProbation).line = m.line := by
        unfold State.entered State.leaveOwed; split <;> rfl
      rw [entered]; exact before
  have changes := asking.onlyChanges unparked
  have asks := asking.asksForProbation onLine still
  have handed := asking.handedOver unparked
  have kept := asking.startProbation_selector onLine still
  show AsksForProbation _ _ s (s.finish m) ∧ (s.finish m).line.directives = d ∧ _ ∧ HandedOver s (s.finish m)
  rw [asking.finish unparked]
  rw [still'] at asks changes handed kept ⊢
  refine ⟨asks, by rw [State.handOver_line, line], changes.without ?_, handed⟩
  exact (State.handOver_selector ..).trans (kept.trans asking.selector)

/-- The sender asks for nothing. -/
theorem keptBeacon_stays :
    let t := s.finish (s.keptBeacon b d e')
    AsksNothing b.sender e' s t ∧ t.line.directives = d
      ∧ OnlyChanges [.start, .line, .peers, .isolation, .engine, .envelope, .pins] s t ∧ HandedOver s t := by
  let m := s.keptBeacon b d e'
  have course : Course (s.told b) m := .keptBeacon d e'
  obtain ⟨queue, probation, peers, selector⟩ := State.keptBeacon_after (b := b) (d := d) (e' := e') hst
  obtain ⟨changes, station⟩ := Course.heardBeacon hst course selector
  have unparked := State.frameNoted_unparked (i := b.sender) (r := b.published.role) hst
  have done : s.finish m = s.handOver m :=
    State.finish_of_settled (State.keptBeacon_settled (d := d) hst still old new) station
  show AsksNothing _ _ s (s.finish m) ∧ (s.finish m).line.directives = d ∧ _ ∧ HandedOver s (s.finish m)
  rw [done]
  refine ⟨⟨?_, ?_, ?_⟩, by rw [State.handOver_line]; rfl, ?_, ?_⟩
  · rw [State.handOver_queue]; exact queue
  · rw [State.handOver_probation]; exact probation
  · rw [State.handOver_peers]; exact peers
  · exact (changes.mono (by decide)).trans ((OnlyChanges.handOver s m).mono (by decide))
  · exact (Course.ofFrame hst course).handedOver unparked rfl rfl rfl rfl rfl rfl

end

end Sys2Proof.Machine
end

section
/-! A beacon of a trusted peer that has restarted. -/

namespace Sys2Proof.Machine

/-! ### The records of an entry that falls -/

section
variable {s y t : State} {i : Station} {e' : PeerEntry} (untrusted : e'.state.trusted = false)
include untrusted

/-- An entry that was not down falls: PEER-DOWN is raised once (R50). -/
theorem RecordRaised.of_fallen (up : (y.peer i).state.down = false) (down : e'.state.down = true)
    (before : y.bare (32 + i.val) = s.bare (32 + i.val)) (start : t.start = y.start)
    (post : t.bare (32 + i.val) = (y.updatePeer i e').bare (32 + i.val)) (fills : Fills (y.updatePeer i e') t)
    (count : t.engine.beaconCount = y.engine.beaconCount) : RecordRaised 1 (peerDownOf t i e'.downCause) s t := by
  let u := y.entered i e'
  have same : u.downRaise i e'.downCause = peerDownOf t i e'.downCause := by
    rw [State.downRaise, peerDownOf, y.entered_start, start]; rfl
  have raised : y.downEvaluated i e' = u.raise (peerDownOf t i e'.downCause) := by
    rw [← same, State.downEvaluated, State.evalDown, if_pos down, up]; rfl
  have synthetic : Synthetic (peerDownOf t i e'.downCause) := same ▸ u.downRaise_synthetic i _
  refine RecordRaised.raise synthetic (u := u) ?_ ?_ ?_ ?_
  · exact (State.bare_of_engine (y.entered_engine i e') _).trans before
  · rw [← raised]; exact post.trans (y.updatePeer_bare_down i e')
  · rw [← raised]; exact (Fills.afterDown i untrusted).trans fills
  · rw [count, (Course.entered y i e').beaconCount]

/-- PEER-POSTURE and CONFIG-MISMATCH hold no longer for a peer that is not trusted any more (R53, R54). -/
theorem entryRecords_of_fallen (config : y.config = s.config) (fallen : (t.peer i).state.trusted = false)
    (h38 : y.bare (38 + i.val) = s.bare (38 + i.val)) (h44 : y.bare (44 + i.val) = s.bare (44 + i.val))
    (post38 : t.bare (38 + i.val) = (y.updatePeer i e').bare (38 + i.val))
    (post44 : t.bare (44 + i.val) = (y.updatePeer i e').bare (44 + i.val)) :
    EntryRecords i (y.peer i) (t.peer i) s t := by
  have adopted : adoptedOf (t.peer i) = none := (adopted_eq _).symm.trans (adopted_of_untrusted fallen)
  have mismatch : mismatchOf s (t.peer i) = false := by
    rw [← mismatch_eq, PeerEntry.mismatch, fallen]; rfl
  have held : mismatchOf y (y.peer i) = mismatchOf s (y.peer i) := by rw [mismatchOf, mismatchOf, config]
  rw [EntryRecords, adopted, mismatch]
  constructor
  · show if adoptedOf (y.peer i) = none then RecordStays (38 + i.val) s t else RecordEnds (38 + i.val) s t
    rw [State.updatePeer_bare_posture_of_untrusted untrusted, adopted_eq] at post38
    split
    next none => rw [if_pos none] at post38; exact post38.trans h38
    next some => rw [if_neg some] at post38; exact RecordEnds.conditionGone h38 post38
  · rw [State.updatePeer_bare_mismatch_of_untrusted untrusted, held] at post44
    cases was : mismatchOf s (y.peer i) with
    | false => rw [was] at post44; exact post44.trans h44
    | true => rw [was] at post44; exact RecordEnds.conditionGone h44 post44

end

/-- A record raised once and then again with another parameter (R76, R77, R89). -/
theorem RecordRaised.again {s u v t : State} {a : Raise} {p : Option PeerParam}
    (synthetic : Synthetic { a with param := p }) (general : isGeneral a.code = true) (h : RecordRaised 1 a s u)
    (engine : v.engine = u.engine)
    (post : t.bare a.code = (v.raise { a with param := p }).bare a.code)
    (fills : Fills (v.raise { a with param := p }) t)
    (count : t.engine.beaconCount = v.engine.beaconCount) : RecordRaised 2 { a with param := p } s t := by
  let a' : Raise := { a with param := p }
  have filled : Fills u t := ((Fills.of_engine engine).trans (.raise v a')).trans fills
  rw [v.raise_bare a' synthetic.2.2.2, if_pos rfl, State.bare_of_engine engine] at post
  unfold RecordRaised at h ⊢
  show match s.record a.code with | none => _ | some r => _
  cases found : s.record a.code with
  | none =>
    rw [found] at h
    obtain created | ⟨full, absent, overflow⟩ := h
    · have again := synthetic.reraised (r := { createdBy a u with count := 1 }) rfl
      have seen : t.engine.beaconCount = u.engine.beaconCount := by rw [count, engine]
      rw [show u.bare a.code = _ from created, raisedRecord, again] at post
      refine .inl (post.trans (congrArg some ?_))
      rw [createdBy, createdBy, seen]; rfl
    · refine .inr ⟨filled.1 full, ?_, filled.2 overflow⟩
      have full' : v.generalFull = true := by rw [State.generalFull_of_engine engine]; exact full
      rw [State.bare_eq_none.2 absent, raisedRecord, full', Bool.and_true, if_pos general] at post
      exact State.bare_eq_none.1 post
  | some r =>
    rw [found] at h
    have again := synthetic.reraised
      (r := { r with
        count := min 255 (r.count + 1), unread := true, life := .holds, taken := false, param := a.param })
      (findRecord_some found).2
    have twice : min 255 (min 255 (r.count + 1) + 1) = min 255 (r.count + 2) := by omega
    rw [show u.bare a.code = _ from h, raisedRecord, again, twice] at post
    exact post

end Sys2Proof.Machine
end

section
/-! The restart of a trusted peer, from its beacon to the end of the handling. -/

namespace Sys2Proof.Machine

/-- An entry that is down falls again for another cause: PEER-DOWN is raised once more (R50). -/
theorem RecordRaised.fallen_again {s w v t : State} {i : Station} {e' : PeerEntry} {c : DownCause}
    (h : RecordRaised 1 (peerDownOf w i c) s w) (engine : v.engine = w.engine) (role : v.start = w.start)
    (down : (v.peer i).state.down = true) (down' : e'.state.down = true) (cause : (v.peer i).downCause ≠ e'.downCause)
    (untrusted : e'.state.trusted = false) (start : t.start = v.start)
    (post : t.bare (32 + i.val) = (v.updatePeer i e').bare (32 + i.val)) (fills : Fills (v.updatePeer i e') t)
    (count : t.engine.beaconCount = v.engine.beaconCount) : RecordRaised 2 (peerDownOf t i e'.downCause) s t := by
  let u := v.entered i e'
  let a' : Raise := { peerDownOf w i c with param := some { station := i, cause := some e'.downCause } }
  have here : u.downRaise i e'.downCause = a' := by rw [State.downRaise, v.entered_start, role]; rfl
  have there : peerDownOf t i e'.downCause = a' := by rw [peerDownOf, start, role]; rfl
  have raised : v.downEvaluated i e' = u.raise a' := by
    rw [← here, State.downEvaluated, State.evalDown, if_pos down', down, decide_eq_false cause]; rfl
  rw [there]
  refine RecordRaised.again (v := u) (show Synthetic a' from here ▸ u.downRaise_synthetic i _)
    (isGeneral_of_le (show 8 ≤ 32 + i.val by omega)) h
    ((v.entered_engine i e').trans engine) ?_ ?_ ?_
  · rw [← raised]; exact post.trans (v.updatePeer_bare_down i e')
  · rw [← raised]; exact (Fills.afterDown i untrusted).trans fills
  · rw [count, v.entered_engine]

/-! ### The records up to the end of the handling -/

/-- Between entries that are not trusted PEER-POSTURE and CONFIG-MISMATCH are left alone (R53, R54). -/
theorem State.updatePeer_bare_between {y : State} {i : Station} {e' : PeerEntry} (old : (y.peer i).state.trusted = false)
    (new : e'.state.trusted = false) : (y.updatePeer i e').bare (38 + i.val) = y.bare (38 + i.val)
      ∧ (y.updatePeer i e').bare (44 + i.val) = y.bare (44 + i.val) := by
  have mismatch : mismatchOf y (y.peer i) = false := by rw [← mismatch_eq, PeerEntry.mismatch, old]; rfl
  refine ⟨(updatePeer_bare_posture_of_untrusted new).trans (if_pos (adopted_of_untrusted old)), ?_⟩
  rw [updatePeer_bare_mismatch_of_untrusted new, mismatch]; rfl

section
variable {i : Station} {e' : PeerEntry} {s m : State} (asking : Asking i e' s m) (onLine : s.station.onLine = true)
  (still : Settled s)
include asking onLine

theorem Asking.refreshed_bare {c : Nat} (h57 : c ≠ 57) (h59 : c ≠ 59) (h4 : c ≠ 4) :
    m.refreshServed.bare c = m.bare c := State.refreshServed_bare (asking.resolving onLine) h57 h59 h4

include still in
theorem Asking.bare_entry : let t := s.handOver m.refreshServed.startProbation
    t.bare (38 + i.val) = m.bare (38 + i.val) ∧ t.bare (44 + i.val) = m.bare (44 + i.val) := by
  simp only [State.handOver_bare]
  rw [← asking.refreshed_bare onLine (c := 38 + i.val) (by omega) (by omega) (by omega),
    ← asking.refreshed_bare onLine (c := 44 + i.val) (by omega) (by omega) (by omega)]
  by_cases free : s.isolation.probation = none
  · rw [asking.starts onLine still free]
    refine State.updatePeer_bare_between (y := m.refreshServed.onTrial i) ?_ rfl
    rw [show (m.refreshServed.onTrial i).peer i = _ from asking.peer]; exact asking.untrusted
  · rw [asking.waits free]; exact ⟨rfl, rfl⟩

end

/-- PEER-DOWN stands raised once where the peer waits, and is raised again as its probation starts (R50, R147). -/
theorem Asking.raises_down {i : Station} {e' : PeerEntry} {s m : State} (asking : Asking i e' s m)
    (onLine : s.station.onLine = true) (unparked : s.station ≠ .parking) (still : Settled s)
    (down : e'.state.down = true) (cause : e'.downCause ≠ .probation)
    (first : ∀ t : State, t.start = m.refreshServed.start →
      t.bare (32 + i.val) = m.refreshServed.bare (32 + i.val) → Fills m.refreshServed t →
      t.engine.beaconCount = m.refreshServed.engine.beaconCount → RecordRaised 1 (peerDownOf t i e'.downCause) s t) :
    let t := s.handOver m.refreshServed.startProbation
    if s.isolation.probation = none then RecordRaised 2 (peerDownOf t i .probation) s t
    else RecordRaised 1 (peerDownOf t i e'.downCause) s t := by
  intro t
  split
  next free =>
    let v := m.refreshServed.onTrial i
    have entry : v.peer i = e' := asking.peer
    have away : v.station ≠ .parking := by
      rw [show v.station = m.refreshServed.station from rfl,
        (Course.refreshServed m).station_eq (asking.not_parking unparked)]
      exact asking.not_parking unparked
    have course := Course.updatePeer v i e'.onProbation
    have done : t = s.handOver (v.updatePeer i e'.onProbation) :=
      congrArg s.handOver (asking.starts onLine still free)
    have start : t.start = v.start := by rw [done, State.handOver_start, course.start_eq away]
    have bare : t.bare (32 + i.val) = (v.updatePeer i e'.onProbation).bare (32 + i.val) := by
      rw [done, State.handOver_bare]
    have fills : Fills (v.updatePeer i e'.onProbation) t := by rw [done]; exact .handOver s _
    have count : t.engine.beaconCount = v.engine.beaconCount := by
      rw [done, State.handOver_beaconCount, course.beaconCount]
    have once := first m.refreshServed rfl rfl (.refl _) rfl
    have twice : RecordRaised 2 (peerDownOf t i e'.onProbation.downCause) s t :=
      once.fallen_again (v := v) rfl rfl (by rw [entry]; exact down) rfl (by rw [entry]; exact cause) rfl start bare
        fills count
    exact twice
  next running =>
    have done : t = s.handOver m.refreshServed := congrArg s.handOver (asking.waits running)
    refine first t ?_ ?_ ?_ ?_ <;> rw [done]
    · exact State.handOver_start ..
    · exact State.handOver_bare ..
    · exact .handOver s _
    · exact State.handOver_beaconCount ..

/-! ### The restart -/

/-- The entry of a peer that has restarted (R38). -/
abbrev PeerEntry.restartedBy (e : PeerEntry) (b : Beacon) : PeerEntry :=
  { storedFrom e b with state := .lost, selfCount := 0, downCause := .restarted }

/-- The state in which a peer that has restarted asks for its probation (R38). -/
abbrev State.restartedBy (s : State) (b : Beacon) : State :=
  (s.told b).updatePeer b.sender ((s.peer b.sender).restartedBy b)

section
variable {b : Beacon} {s : State} (hst : s.station = .join ∨ s.station = .run)
  (trusted : (s.peer b.sender).state.trusted = true)
include hst

include trusted in
theorem State.takeBeacon_of_restart (joining : b.flags.joining = true) (was : (s.peer b.sender).flags.joining = false) :
    (s.told b).takeBeacon b = (s.restartedBy b).enqueueRejoin b.sender := by
  have entry := told_peer (b := b) hst b.sender
  have taken : (s.told b).takeBeacon b = (s.told b).beaconAtTrusted b := by
    unfold takeBeacon
    rw [entry]
    rcases trusted_cases trusted with h | h <;> rw [h]
  have restarts : (b.flags.joining && !(s.peer b.sender).flags.joining) = true := by rw [joining, was]; rfl
  rw [taken, beaconAtTrusted]
  simp only [entry, restarts, if_true]
  rw [peerRestarts, entry]; rfl

theorem Asking.restarted :
    Asking b.sender ((s.peer b.sender).restartedBy b) s ((s.restartedBy b).enqueueRejoin b.sender) := by
  obtain ⟨queue, probation⟩ := (s.told b).updatePeer_queue b.sender ((s.peer b.sender).restartedBy b)
  obtain ⟨queue', probation', -⟩ := State.roleTaken_queue (i := b.sender) (r := b.published.role) hst
  refine .of_course hst (.updatePeer ..) (queue.trans queue') (probation.trans probation') ?_ ?_ rfl
  · rw [State.updatePeer_peers, State.roleTaken_peers hst]
  · rw [State.updatePeer_selector, State.roleTaken_selector hst]

variable (still : Settled s)
include still

/-- PEER-POSTURE and CONFIG-MISMATCH end as the peer restarts (R38, R53, R54). -/
theorem restarted_records : let t := s.finish ((s.restartedBy b).enqueueRejoin b.sender)
    EntryRecords b.sender (s.peer b.sender) (t.peer b.sender) s t := by
  have asking := Asking.restarted (b := b) hst
  have unparked := State.frameNoted_unparked (i := b.sender) (r := b.published.role) hst
  have onLine := State.onLine_of_joined hst
  have told := Works.roleTaken (i := b.sender) (r := b.published.role) hst
  have hi := b.sender.isLt
  simp only
  rw [asking.finish unparked, ← State.told_peer (b := b) hst b.sender]
  obtain ⟨posture, mismatch⟩ := asking.bare_entry onLine still
  let w := ((s.restartedBy b).enqueueRejoin b.sender).refreshServed.startProbation
  have fallen : ((s.handOver w).peer b.sender).state.trusted = false := by
    rw [State.handOver_peer, State.peer, asking.startProbation_peers onLine still, Six.get_set, if_pos rfl]
    split <;> rfl
  have queued : ∀ c, ((s.restartedBy b).enqueueRejoin b.sender).bare c = (s.restartedBy b).bare c := fun c => by
    rw [State.enqueueRejoin_eq]; rfl
  exact entryRecords_of_fallen (e' := (s.peer b.sender).restartedBy b) rfl told.course.config fallen
    (State.roleTaken_bare hst (by omega) (by omega) (by omega) (by omega))
    (State.roleTaken_bare hst (by omega) (by omega) (by omega) (by omega))
    (posture.trans (queued _)) (mismatch.trans (queued _))

include trusted in
/-- PEER-DOWN is raised with cause RESTARTED, and again as the probation starts (R38, R50, R147). -/
theorem restarted_down : let t := s.finish ((s.restartedBy b).enqueueRejoin b.sender)
    if s.isolation.probation = none then RecordRaised 2 (peerDownOf t b.sender .probation) s t
    else RecordRaised 1 (peerDownOf t b.sender .restarted) s t := by
  let e' := (s.peer b.sender).restartedBy b
  let m := (s.restartedBy b).enqueueRejoin b.sender
  let w := m.refreshServed
  have hi := b.sender.isLt
  have asking := Asking.restarted (b := b) hst
  have unparked := State.frameNoted_unparked (i := b.sender) (r := b.published.role) hst
  have onLine := State.onLine_of_joined hst
  have up : ((s.told b).peer b.sender).state.down = false := by
    rw [State.told_peer hst]; exact down_of_trusted trusted
  have before : (s.told b).bare (32 + b.sender.val) = s.bare (32 + b.sender.val) :=
    State.roleTaken_bare hst (by omega) (by omega) (by omega) (by omega)
  have queued : m = (s.restartedBy b).setIsolation _ := State.enqueueRejoin_eq ..
  have engine : m.engine = (s.restartedBy b).engine := by rw [queued]; rfl
  have start : w.start = (s.told b).start := by
    have told : (s.told b).station = s.station := (Works.roleTaken hst).station_eq unparked
    rw [(Course.refreshServed m).start_eq (asking.not_parking unparked), queued]
    exact (Course.updatePeer (s.told b) b.sender e').start_eq (by rw [told]; exact unparked)
  have bare : w.bare (32 + b.sender.val) = (s.restartedBy b).bare (32 + b.sender.val) :=
    (asking.refreshed_bare onLine (by omega) (by omega) (by omega)).trans (State.bare_of_engine engine _)
  have fills : Fills (s.restartedBy b) w := (Fills.of_engine engine).trans (.refreshServed (asking.resolving onLine))
  have count : w.engine.beaconCount = (s.told b).engine.beaconCount := by
    rw [(Course.refreshServed m).beaconCount, engine, (Course.updatePeer ..).beaconCount]
  have raised : ∀ t : State, t.start = w.start → t.bare (32 + b.sender.val) = w.bare (32 + b.sender.val) →
      Fills w t → t.engine.beaconCount = w.engine.beaconCount →
      RecordRaised 1 (peerDownOf t b.sender e'.downCause) s t :=
    fun t hs hb hf hc => RecordRaised.of_fallen (y := s.told b) (e' := e') rfl up rfl before (hs.trans start)
      (hb.trans bare) (fills.trans hf) (hc.trans count)
  simp only
  rw [asking.finish unparked]
  exact asking.raises_down onLine unparked still rfl (by exact (by decide : DownCause.restarted ≠ .probation)) raised

end

end Sys2Proof.Machine
end

section
/-! A beacon by which a peer parks, and one of a parked peer. -/

namespace Sys2Proof.Machine

/-- The presentation of PEER-POSTURE finds nothing at an entry that is not trusted (R53). -/
theorem State.hearPeer_of_untrusted {s : State} {i : Station} {e' : PeerEntry} (h : e'.state.trusted = false) :
    s.hearPeer i e' = s.updatePeer i e' := by
  rw [hearPeer, presentPosture, updatePeer_self, adopted_of_untrusted h]

/-- The entry of a peer that parks (R39). -/
abbrev PeerEntry.parkedBy (e : PeerEntry) (b : Beacon) : PeerEntry :=
  { storedFrom e b with state := .parked, selfCount := 0, score := scoredBy e b }

/-- The entry that a beacon of a parked peer leaves, apart from a muting (R36, R46, R47). -/
abbrev PeerEntry.returnedBy (e : PeerEntry) (b : Beacon) : PeerEntry :=
  byThresholds { storedFrom e b with state := if b.flags.parking then .parked else .live, score := scoredBy e b }

theorem returnedBy_trusted (e : PeerEntry) (b : Beacon) :
    (e.returnedBy b).state.trusted = true ↔ b.flags.parking = false := by
  cases parking : b.flags.parking with
  | true => simp [PeerEntry.returnedBy, byThresholds, parking, EntryState.trusted]
  | false =>
    refine ⟨fun _ => rfl, fun _ => byThresholds_trusted ?_⟩
    rw [parking]; rfl

theorem returnedBy_up (e : PeerEntry) (b : Beacon) : (e.returnedBy b).state.down = false := by
  cases parking : b.flags.parking with
  | true => simp [PeerEntry.returnedBy, byThresholds, parking, EntryState.down]
  | false => exact down_of_trusted ((returnedBy_trusted e b).2 parking)

section
variable {b : Beacon} {s : State} (hst : s.station = .join ∨ s.station = .run)
include hst

theorem State.takeBeacon_of_parking (trusted : (s.peer b.sender).state.trusted = true) (parking : b.flags.parking = true)
    (stays : b.flags.joining = false ∨ (s.peer b.sender).flags.joining = true) :
    (s.told b).takeBeacon b = (s.told b).hearPeer b.sender ((s.peer b.sender).parkedBy b) := by
  have entry := told_peer (b := b) hst b.sender
  have taken : (s.told b).takeBeacon b = (s.told b).beaconAtTrusted b := by
    unfold takeBeacon
    rw [entry]
    rcases trusted_cases trusted with h | h <;> rw [h]
  have still : (b.flags.joining && !(s.peer b.sender).flags.joining) = false := by
    rcases stays with h | h <;> rw [h]
    · rfl
    · cases b.flags.joining <;> rfl
  have parks : (s.told b).peerParks b = (s.told b).updatePeer b.sender ((s.peer b.sender).parkedBy b) := by
    rw [peerParks, entry, PeerEntry.storeScored, scoreAfter_eq]; rfl
  rw [taken, beaconAtTrusted]
  simp only [entry, still, parking, Bool.false_eq_true, if_false, if_true]
  rw [parks, hearPeer_of_untrusted rfl]

/-- In RUN a score of 192 or more mutes the peer that returns (R36, R47, R136). -/
theorem State.takeBeacon_of_parked (parked : (s.peer b.sender).state = .parked) :
    let y := (s.told b).hearPeer b.sender ((s.peer b.sender).returnedBy b)
    (s.told b).takeBeacon b = if mutesBy s (s.peer b.sender) b = true then y.mute b.sender .score else y := by
  intro y
  have entry := told_peer (b := b) hst b.sender
  have heard : y.peer b.sender = (s.peer b.sender).returnedBy b := hearPeer_peer
  have station : y.station = s.station :=
    (Course.ofFrame hst (Course.hearPeer (s.told b) b.sender _)).station_eq
      (frameNoted_unparked (i := b.sender) (r := b.published.role) hst)
  have taken : (s.told b).takeBeacon b = y.reportScore b.sender := by
    have atParked : (s.told b).takeBeacon b = (s.told b).beaconAtParked b := by
      unfold takeBeacon; rw [entry, parked]
    rw [atParked, beaconAtParked, hearScored, entry, thresholds_eq, PeerEntry.storeScored, scoreAfter_eq]; rfl
  have decides : (y.station = .run ∧ (y.peer b.sender).state.trusted ∧ Config.muteAt ≤ (y.peer b.sender).score)
      ↔ mutesBy s (s.peer b.sender) b = true := by
    rw [heard, station, returnedBy_trusted, mutesBy, decide_eq_true_iff]; exact Iff.rfl
  rw [taken, reportScore]
  exact if_congr decides rfl rfl

/-! ### The end of the handling -/

theorem AsksNothing.of_course {m : State} {e' : PeerEntry} (still : Settled s) (course : Course (s.told b) m)
    (queue : m.isolation.queue = s.isolation.queue) (probation : m.isolation.probation = s.isolation.probation)
    (peers : m.peers = s.peers.set b.sender e') : AsksNothing b.sender e' s (s.finish m) := by
  have refreshed := SamePeers.refreshServed m
  rw [finish_of_beacon hst course still queue probation]
  refine ⟨?_, ?_, ?_⟩
  · rw [State.handOver_queue, refreshed.queue, queue]
  · rw [State.handOver_probation, refreshed.probation, probation]
  · rw [State.handOver_peers, refreshed.peers, peers]

/-- A beacon that is stored lets nobody ask for probation. -/
theorem beacon_asksNothing (still : Settled s) (e' : PeerEntry) :
    AsksNothing b.sender e' s (s.finish ((s.told b).hearPeer b.sender e')) := by
  obtain ⟨queue, probation⟩ := (s.told b).hearPeer_queue b.sender e'
  obtain ⟨queue', probation', -⟩ := State.roleTaken_queue (i := b.sender) (r := b.published.role) hst
  exact .of_course hst still (.hearPeer ..) (queue.trans queue') (probation.trans probation')
    (by rw [State.hearPeer_peers, State.roleTaken_peers hst])

end

/-! ### A muting at the beacon of a peer that was not down -/

/-- The state in which a peer that the beacon left at the trusted entry `e1` is muted by its score (R136, R137). -/
abbrev State.mutedAt (s : State) (b : Beacon) (e1 : PeerEntry) : State :=
  ((s.told b).hearPeer b.sender e1).mute b.sender .score

section
variable {b : Beacon} {s : State} {e1 : PeerEntry} (hst : s.station = .join ∨ s.station = .run)
include hst

/-- The state in which it is muted has only changed by the beacon. -/
theorem Course.heardAt : Course (s.frameNoted b.sender b.published.role) ((s.told b).hearPeer b.sender e1) :=
  Course.ofFrame hst (.hearPeer ..)

theorem State.mutedAt_eq : s.mutedAt b e1
    = ((s.told b).hearPeer b.sender e1).updatePeer b.sender (mutedFrom e1 .score s.config.muteHold) := by
  have config : ((s.told b).hearPeer b.sender e1).config = s.config := (Course.heardAt hst).config
  rw [mutedAt, mute, hearPeer_peer, config]; rfl

theorem State.mutedAt_peers :
    (s.mutedAt b e1).peers = s.peers.set b.sender (mutedFrom e1 .score s.config.muteHold) := by
  rw [mutedAt_eq hst, updatePeer_peers, hearPeer_peers, Six.set_set, roleTaken_peers hst]

theorem State.mutedAt_selector : (s.mutedAt b e1).selector = s.selector := by
  rw [mutedAt_eq hst, updatePeer_selector, hearPeer_selector, roleTaken_selector hst]

theorem State.mutedAt_bare {c : Nat} (hc : 50 ≤ c) : (s.mutedAt b e1).bare c = (s.told b).bare c := by
  rw [mutedAt_eq hst, updatePeer_bare _ _ _ (by omega) (by omega) (by omega) (by omega) (by omega),
    hearPeer_bare _ _ _ hc]

theorem State.mutedAt_queue : (s.mutedAt b e1).isolation.queue = s.isolation.queue
    ∧ (s.mutedAt b e1).isolation.probation = s.isolation.probation := by
  obtain ⟨queue, probation⟩ :=
    ((s.told b).hearPeer b.sender e1).updatePeer_queue b.sender (mutedFrom e1 .score s.config.muteHold)
  obtain ⟨queue', probation'⟩ := (s.told b).hearPeer_queue b.sender e1
  obtain ⟨queue'', probation'', -⟩ := State.roleTaken_queue (i := b.sender) (r := b.published.role) hst
  rw [mutedAt_eq hst]
  exact ⟨(queue.trans queue').trans queue'', (probation.trans probation').trans probation''⟩

variable (trusted1 : e1.state.trusted = true)
include trusted1

/-- The peer leaves the readmit-owed list (R152). -/
theorem State.mutedAt_owed :
    (s.mutedAt b e1).isolation.owed = s.isolation.owed.filter (fun i => decide (i ≠ b.sender)) := by
  let y := (s.told b).hearPeer b.sender e1
  have entry : y.peer b.sender = e1 := hearPeer_peer
  obtain ⟨-, -, -, owed⟩ := (Works.updatePeer y b.sender (mutedFrom e1 .score s.config.muteHold)).isolation
  obtain ⟨-, -, -, heard⟩ := (Works.hearPeer (s.told b) b.sender e1).isolation
  obtain ⟨-, -, told⟩ := State.roleTaken_queue (i := b.sender) (r := b.published.role) hst
  have kept : y.isolation.owed = s.isolation.owed := by
    refine heard.trans ?_
    rw [entered_isolation, trusted1, Bool.not_true, Bool.and_false]
    exact told
  rw [mutedAt_eq hst, owed, entered_isolation, entry, trusted1, kept]
  exact List.filter_congr fun j _ => by rw [Bool.eq_iff_iff]; simp

variable (up : (s.peer b.sender).state.down = false)
include up

/-- PEER-POSTURE and CONFIG-MISMATCH move by the beacon and then end (R53, R54; log 32). -/
theorem mutedAt_records {t : State} (flags : e1.flags = b.flags) (level : e1.ownLevel = b.ownLevel)
    (period : e1.period = some b.period)
    (bare : ∀ c, c ≠ 57 → c ≠ 59 → c ≠ 4 → t.bare c = (s.mutedAt b e1).bare c)
    (fills : Fills (s.mutedAt b e1) t) (count : t.engine.beaconCount = (s.mutedAt b e1).engine.beaconCount)
    (table : TableLaw s.engine.records) :
    PosturePasses b.sender (adoptedOf (s.peer b.sender)) (adoptedFrom b.flags.isolated b.ownLevel) s t
      ∧ if mismatchOf s (s.peer b.sender) = true then RecordEnds (44 + b.sender.val) s t
        else if b.period ≠ s.config.period then RecordPasses (configMismatchOf b.sender) s t
        else RecordStays (44 + b.sender.val) s t := by
  let y := (s.told b).hearPeer b.sender e1
  have hi := b.sender.isLt
  have entry : y.peer b.sender = e1 := State.hearPeer_peer
  have live := (trusted_iff _).1 trusted1
  have adopted : adoptedOf e1 = adoptedFrom b.flags.isolated b.ownLevel := by
    rw [← flags, ← level]; exact if_pos live
  have mismatch : mismatchOf s e1 = true ↔ b.period ≠ s.config.period := by
    rw [mismatchOf, decide_eq_true_iff, period]
    exact ⟨fun ⟨_, p, hp, ne⟩ => Option.some.inj hp ▸ ne, fun ne => ⟨live, _, rfl, ne⟩⟩
  have held : mismatchOf y (y.peer b.sender) = mismatchOf s e1 := by
    rw [entry, mismatchOf, mismatchOf, show y.config = s.config from (Course.heardAt hst).config]
  obtain ⟨moved, -⟩ := stored_records hst up (down_of_trusted trusted1) (t := y) (fun _ _ _ _ => rfl) (.refl _) rfl
  obtain ⟨posture, periods⟩ := moved table
  rw [State.mutedAt_eq hst] at bare fills count
  have filled : Fills y t := (Fills.updatePeer b.sender (.inr rfl)).trans fills
  have counted : t.engine.beaconCount = y.engine.beaconCount := count.trans (Course.updatePeer ..).beaconCount
  rw [adopted] at posture
  refine ⟨PosturePasses.of_follows posture ?_ filled counted, ?_⟩
  · rw [bare _ (by omega) (by omega) (by omega), State.updatePeer_bare_posture_of_untrusted rfl, entry, adopted_eq,
      adopted]
  · have post : t.bare (44 + b.sender.val) = if mismatchOf s e1 = true then
        (y.conditionGone (44 + b.sender.val)).bare (44 + b.sender.val) else y.bare (44 + b.sender.val) := by
      rw [bare _ (by omega) (by omega) (by omega), State.updatePeer_bare_mismatch_of_untrusted rfl, held]
    have passes : if mismatchOf s (s.peer b.sender) = true then RecordEnds (44 + b.sender.val) s t
        else if mismatchOf s e1 = true then RecordPasses (configMismatchOf b.sender) s t
        else RecordStays (44 + b.sender.val) s t :=
      mismatch_of_muted (a := configMismatchOf b.sender) periods post filled counted
    simpa only [mismatch] using passes

/-- A beacon that finds a peer not down and mutes it. -/
theorem beacon_mutesAt (still : Settled s) (flags : e1.flags = b.flags) (level : e1.ownLevel = b.ownLevel)
    (period : e1.period = some b.period) :
    let t := s.finish (s.mutedAt b e1)
    BeaconStored b s t ∧ AsksNothing b.sender (mutedFrom e1 .score s.config.muteHold) s t
      ∧ MutedAtBeacon b (s.peer b.sender) s t := by
  let y := (s.told b).hearPeer b.sender e1
  have hi := b.sender.isLt
  have course : Course (s.told b) (s.mutedAt b e1) := (Course.hearPeer ..).trans (.mute ..)
  have sel := State.mutedAt_selector (b := b) (e1 := e1) hst
  obtain ⟨queue, probation⟩ := State.mutedAt_queue (b := b) (e1 := e1) hst
  have concluded := BeaconConcluded.of_course hst course sel
  have nothing := AsksNothing.of_course hst still course queue probation (State.mutedAt_peers hst)
  have done := finish_of_beacon hst course still queue probation
  have entry : y.peer b.sender = e1 := State.hearPeer_peer
  have before : y.bare (32 + b.sender.val) = s.bare (32 + b.sender.val) := by
    rw [State.hearPeer_bare_down (by rw [State.told_peer hst]; exact up) (down_of_trusted trusted1)]
    exact State.roleTaken_bare hst (by omega) (by omega) (by omega) (by omega)
  have start : y.start = s.heardStart b.sender b.published.role :=
    (Course.heardAt hst).start_eq (State.frameNoted_unparked hst)
  have same := State.mutedAt_eq (b := b) (e1 := e1) hst
  intro t
  have final : t = s.handOver (s.mutedAt b e1).refreshServed := done
  rw [← final] at concluded
  have stored : BeaconStored b s t :=
    final ▸ .of_concluded hst course sel (fun c hc => State.mutedAt_bare hst hc) (final ▸ concluded)
  refine ⟨stored, nothing, ?_, concluded.owed.trans (State.mutedAt_owed hst trusted1),
    mutedAt_records hst trusted1 up flags level period concluded.bare concluded.fills concluded.beaconCount⟩
  refine RecordRaised.of_fallen (y := y) (e' := mutedFrom e1 .score s.config.muteHold) rfl ?_ rfl before ?_ ?_ ?_ ?_
  · rw [entry]; exact down_of_trusted trusted1
  · rw [concluded.start, start]
  · rw [← same]; exact concluded.bare _ (by omega) (by omega) (by omega)
  · rw [← same]; exact concluded.fills
  · rw [concluded.beaconCount, same, (Course.updatePeer ..).beaconCount]

end

end Sys2Proof.Machine
end

section
/-! The obligation on a beacon that restarts or parks its sender, or returns it. -/

namespace Sys2Proof.Machine

section
variable {b : Beacon} {s : State} (hst : s.station = .join ∨ s.station = .run) (still : Settled s)
include hst still

/-- A restart, but for its records (R38, R146). -/
theorem beacon_restarts : let t := s.finish ((s.restartedBy b).enqueueRejoin b.sender)
    AsksForProbation b.sender ((s.peer b.sender).restartedBy b) s t
      ∧ t.selector.own = s.selector.own ∧ t.selector.served = t.resolved ∧ BandFollows s t
      ∧ OnlyChanges [.start, .line, .peers, .selector, .isolation, .engine, .envelope, .pins] s t
      ∧ HandedOver s t := by
  have asking := Asking.restarted (b := b) hst
  have unparked := State.frameNoted_unparked (i := b.sender) (r := b.published.role) hst
  have onLine := State.onLine_of_joined hst
  simp only
  rw [asking.finish unparked]
  obtain ⟨own, served, band⟩ := asking.served onLine still
  exact ⟨asking.asksForProbation onLine still, own, served, band, (asking.onlyChanges unparked).mono (by decide),
    asking.handedOver unparked⟩

/-- A beacon that is stored at a peer that was not down and is not. -/
theorem beacon_kept {e' : PeerEntry} (up : (s.peer b.sender).state.down = false) (up' : e'.state.down = false) :
    let t := s.finish ((s.told b).hearPeer b.sender e')
    BeaconStored b s t ∧ AsksNothing b.sender e' s t
      ∧ (TableLaw s.engine.records → EntryRecords b.sender (s.peer b.sender) (t.peer b.sender) s t) := by
  obtain ⟨t, ran, stored, -, records, -⟩ := beacon_stored hst still up up'
  have nothing := beacon_asksNothing (b := b) hst still e'
  simp only
  rw [ran] at nothing ⊢
  exact ⟨stored, nothing, records⟩

end

/-- Settles O48: by the state of the sender's entry, and for a trusted or a parked one by the flags of the beacon. -/
theorem beaconRestartsOrParksThePeer : Obligations.BeaconRestartsOrParksThePeer := by
  rintro b _ s hst still - wf other rfl
  have ran := execBeacon hst wf other
  refine ⟨fun trusted joining was => ?_, fun trusted parking stays => ?_, fun parked => ?_, fun lost => ?_,
    fun muted => ?_⟩
  · rw [State.takeBeacon_of_restart hst trusted joining was] at ran
    obtain ⟨asks, own, served, band, changes, handed⟩ := beacon_restarts (b := b) hst still
    exact ⟨_, ran, asks, fun _ => restarted_records hst still, restarted_down hst trusted still, own, served, band,
      changes, handed⟩
  · rw [State.takeBeacon_of_parking hst trusted parking stays] at ran
    obtain ⟨stored, nothing, records⟩ :=
      beacon_kept (e' := (s.peer b.sender).parkedBy b) hst still (down_of_trusted trusted) rfl
    exact ⟨_, ran, nothing, records, stored.own, stored.served, stored.band, stored.changes, stored.handed⟩
  · have up : (s.peer b.sender).state.down = false := by rw [parked]; rfl
    rw [State.takeBeacon_of_parked hst parked] at ran
    by_cases mutes : mutesBy s (s.peer b.sender) b = true
    · rw [if_pos mutes] at ran
      have trusted1 := (returnedBy_trusted (s.peer b.sender) b).2 (of_decide_eq_true mutes).2.1
      obtain ⟨stored, nothing, muted⟩ := beacon_mutesAt hst trusted1 up still rfl rfl rfl
      rw [if_pos mutes]
      exact ⟨_, ran, nothing, (if_pos mutes).mpr muted, stored.own, stored.served, stored.band, stored.changes,
        stored.handed⟩
    · rw [if_neg mutes] at ran
      obtain ⟨stored, nothing, records⟩ := beacon_kept hst still up (returnedBy_up (s.peer b.sender) b)
      rw [if_neg mutes]
      exact ⟨_, ran, nothing, (if_neg mutes).mpr records, stored.own, stored.served, stored.band, stored.changes,
        stored.handed⟩
  · have old : (s.peer b.sender).state.trusted = false := by rw [lost]; rfl
    rw [State.takeBeacon_of_lost hst lost] at ran
    obtain ⟨asks, -, changes, handed⟩ := keptBeacon_asks (d := s.line.directives)
      (e' := storedFrom (s.peer b.sender) b) hst still old old
    exact ⟨_, ran, asks, changes, handed⟩
  · have old : (s.peer b.sender).state.trusted = false := by rw [muted]; rfl
    let d := ceaseGiven b.sender (s.peer b.sender) s.line.directives
    let e' := mutedHeard (s.peer b.sender) b s.line.directives
    rw [State.takeBeacon_of_muted hst muted] at ran
    by_cases asked : MutedAsks (s.peer b.sender) b
    · rw [if_pos ((asksReturn_iff _ b).2 asked)] at ran
      obtain ⟨asks, line, changes, handed⟩ := keptBeacon_asks (d := d) (e' := e') hst still old old
      exact ⟨_, ran, fun _ => asks, fun h => absurd asked h, line, changes, handed⟩
    · rw [if_neg (mt (asksReturn_iff _ b).1 asked)] at ran
      obtain ⟨nothing, line, changes, handed⟩ := keptBeacon_stays (d := d) (e' := e') hst still old old
      exact ⟨_, ran, fun h => absurd h asked, fun _ => nothing, line, changes, handed⟩

end Sys2Proof.Machine
end
